-- ==== Sys2Proof/Word.lean ====
section
/-! DEFINITION. The words of the chain: sixteen-bit line words and their signed reading. -/

namespace Sys2Proof

/-- Sixteen bits of frame content: one data word of a link (R132), one operand, one result. -/
abbrev Word := BitVec 16

/-- The signed reading of a word, −32768..32767: sample values and thresholds (00_scope §5.2). -/
abbrev Word.signed (w : Word) : Int := w.toInt

end Sys2Proof
end

