-- ==== Sys2Proof/Config.lean ====
section
/-! DEFINITION. What the manual fixes for every part: capacities, power-on settings, identity. -/

namespace Sys2Proof.Config

/-- The binding table holds 256 entries (R1). -/
abbrev bindingEntries : Nat := 256
/-- Each bank holds 32 profile slots (R28). -/
abbrev profileSlots : Nat := 32
/-- A profile holds at most 15 thresholds (R24). -/
abbrev maxThresholds : Nat := 15
/-- The event store never holds more than 64 records (R88). -/
abbrev storeCapacity : Nat := 64
/-- A resync pass runs when an ACK leaves this many records or fewer (R101). -/
abbrev resyncOccupancy : Nat := 48
/-- The greatest merge count, where it saturates (R91). -/
abbrev maxMergeCount : Nat := 255
/-- An EVENT frame carries at most 8 records (R114). -/
abbrev recordsPerFrame : Nat := 8
/-- The forward queue and the return queue hold at most 8 frames each (R154, R156). -/
abbrev queueCapacity : Nat := 8
/-- The response queue and the response cache hold at most 4 each (R154, R169, R173). -/
abbrev agentCapacity : Nat := 4
/-- The consecutive-forward count saturates here (R159). -/
abbrev maxForwardCount : Nat := 3
/-- The clean marker intervals that bring an ACQUIRING port UP (R141). -/
abbrev cleanIntervals : Nat := 4
/-- The consecutive faults that take an UP port DOWN (R139, R142). -/
abbrev faultLimit : Nat := 16
/-- A frame carries at most 64 payload words (R133, R137). -/
abbrev maxPayload : Nat := 64
/-- A SAMPLE frame carries at most 16 pairs (R138). -/
abbrev maxPairs : Nat := 16
/-- The ack timeout after power-on, in ticks (R111). -/
abbrev defaultAckTimeout : Nat := 40
/-- The retry limit after power-on (R111). -/
abbrev defaultRetryLimit : Nat := 4
/-- The family code IDENTIFY returns (R180). -/
abbrev familyCode : Word := 0x0320#16
/-- The revision IDENTIFY returns (R180). -/
abbrev revision : Word := 1#16
/-- The broadcast value of an address field (R150). -/
abbrev broadcastAddress : BitVec 6 := 63#6

end Sys2Proof.Config
end

