-- ==== Sys2Proof/Syntax.lean ====
section
/-! DEFINITION. The commands of the block: one constructor of `Instr` for each row of spec/opcode_table.json, with
the frames, requests and line happenings that they carry. -/

namespace Sys2Proof

/-- The two link ports: the S port faces the sources, the C port the collector (chapter 7). -/
inductive Port where
  | s
  | c
  deriving DecidableEq, Repr

/-- The levels at the supply, clock and reset inputs that R190 reads: power present, clock running, RSTN high. -/
structure Pins where
  power : Bool
  clock : Bool
  resetHigh : Bool
  deriving DecidableEq, Repr

/-- The content of a frame (R133): kind, address field, header extension and payload. The payload length and the
CRC word are functions of it (`Frame.words`). -/
structure Frame where
  kind : BitVec 4
  address : BitVec 6
  extension : BitVec 15
  payload : List Word
  deriving DecidableEq, Repr

/-- One pair of a SAMPLE frame: channel number 0..31 and signed value (R48). -/
structure Pair where
  channel : BitVec 5
  value : Word
  deriving DecidableEq, Repr

/-- A SAMPLE frame, read by its layout (Table 7-1): source address, header extension, source frame sequence, pairs. -/
structure SampleFrame where
  source : BitVec 6
  extension : BitVec 15
  sequence : BitVec 8
  pairs : List Pair
  deriving DecidableEq, Repr

/-- A MGMT_REQ frame but for its command code (Table 7-1, R164): address field, header extension, tag, operand words. -/
structure Request where
  address : BitVec 6
  extension : BitVec 15
  tag : BitVec 8
  operands : List Word
  deriving DecidableEq, Repr

/-- The line word that ends the reception of a frame (R137): its END, or what arrives before the END. -/
inductive Closing where
  | endMarker
  | abortMarker
  | startMarker
  | syncMarker
  | idleMarker
  | codeViolation
  deriving DecidableEq, Repr

/-- What a receiver took in from a START on: the data words, and what closed them (R137). -/
structure Reception where
  words : List Word
  closing : Closing
  deriving DecidableEq, Repr

/-- The framing errors of R141, each with the place of the receiver (inside or outside a frame) that makes it one. -/
inductive FramingError where
  | violationOutside
  | endOutside
  | abortOutside
  | violationInside
  | startInside
  | syncInside
  | idleInside
  deriving DecidableEq, Repr

/-- The commands: the part's steps, each taken whole (opcode_table.json; 00_scope §5.5). -/
inductive Instr where
  /-- POWER_ON: power applied or RSTN driven low; the inputs then stand at `pins` (R190). -/
  | powerOn (pins : Pins)
  /-- SYNC_RECEIVED: a SYNC marker outside a frame (R140, R141). -/
  | syncReceived (port : Port)
  /-- FRAMING_ERROR (R141; R142 and R137 while the port is UP). -/
  | framingError (port : Port) (error : FramingError)
  /-- LINK_SILENCE_TIMEOUT: 512 line word times without a SYNC (R141, R142). -/
  | linkSilenceTimeout (port : Port)
  /-- FAULTY_FRAME: a reception that the receive checks judge (R137, R138, R139). -/
  | faultyFrame (port : Port) (reception : Reception)
  /-- SAMPLE: a SAMPLE frame on the S port (R48, R49). -/
  | sample (frame : SampleFrame)
  /-- FORWARD_UNCHANGED: a frame on either port, dispatched by the router (R149, R150). -/
  | forwardUnchanged (port : Port) (frame : Frame)
  /-- ACK: an ACK frame on the C port (R119 to R122). -/
  | ack (address : BitVec 6) (extension : BitVec 15) (payload : List Word)
  /-- ENUM: an ENUM frame on the C port (R187, R188). -/
  | enum (address : BitVec 6) (extension : BitVec 15) (payload : List Word)
  /-- CHAIN_RESET: a RESET frame on the C port (R152, R191). -/
  | chainReset (address : BitVec 6) (extension : BitVec 15) (payload : List Word)
  /-- TICK: the end of a tick period (R74, R75, R80, R124). -/
  | tick
  /-- SILENCE_EXPIRY of the binding at an index (R82, R83). -/
  | silenceExpiry (index : Fin 256)
  /-- ACK_TIMER_EXPIRY (R124 to R126). -/
  | ackTimerExpiry
  /-- C_PORT_GRANT: one grant of the C transmitter (R159, R160). -/
  | cPortGrant
  /-- S_PORT_TRANSMIT_START (R156). -/
  | sPortTransmitStart
  /-- TRANSMISSION_COMPLETE: the END of the frame in transmission has left the port (R144, R117). -/
  | transmissionComplete (port : Port)
  /-- COMMIT_SWEEP_END (R40 to R42). -/
  | commitSweepEnd
  /-- UNKNOWN_COMMAND: a request of the given command code (R168). -/
  | unknownCommand (code : BitVec 8) (request : Request)
  /-- IDENTIFY, command code 1 (R180). -/
  | identify (request : Request)
  /-- READ_STATUS, command code 2 (R181, R182). -/
  | readStatus (request : Request)
  /-- CLEAR_STATUS, command code 3 (R183). -/
  | clearStatus (request : Request)
  /-- SET_MODE, command code 4 (R192). -/
  | setMode (request : Request)
  /-- RESTART, command code 5 (R194). -/
  | restart (request : Request)
  /-- BIND, command code 16 (R15, R16). -/
  | bind (request : Request)
  /-- UNBIND, command code 17 (R17). -/
  | unbind (request : Request)
  /-- MODIFY_BINDING, command code 18 (R18, R19). -/
  | modifyBinding (request : Request)
  /-- READ_BINDING, command code 19 (R20, R21). -/
  | readBinding (request : Request)
  /-- LOAD_PROFILE, command code 32 (R30 to R32). -/
  | loadProfile (request : Request)
  /-- CLEAR_PROFILE, command code 33 (R33). -/
  | clearProfile (request : Request)
  /-- COPY_ACTIVE, command code 34 (R34). -/
  | copyActive (request : Request)
  /-- COMMIT, command code 35 (R37, R39). -/
  | commit (request : Request)
  /-- READ_PROFILE, command code 36 (R35). -/
  | readProfile (request : Request)
  /-- SET_TICK, command code 48 (R76). -/
  | setTick (request : Request)
  /-- SET_DELIVERY, command code 49 (R130). -/
  | setDelivery (request : Request)
  /-- CLEAR_STALL, command code 50 (R128). -/
  | clearStall (request : Request)
  /-- SET_NOTICES, command code 51 (R104). -/
  | setNotices (request : Request)
  /-- SET_DEFAULT, command code 52 (R158). -/
  | setDefault (request : Request)
  deriving DecidableEq, Repr

end Sys2Proof
end

