-- ==== Sys2Proof/Machine/Frames.lean ====
section
/-! DEFINITION. Frames on the line: the CRC, the header layout, the reading of a frame from its words, the kind checks, and
the layouts of the frames that carry samples and requests (R132 to R138, Table 7-1). -/

namespace Sys2Proof.Machine

/-! ### Frame kinds (Table 7-2) -/

/-- The kind codes of Table 7-2. -/
abbrev kindSample : BitVec 4 := 1#4
abbrev kindEvent : BitVec 4 := 2#4
abbrev kindResponse : BitVec 4 := 3#4
abbrev kindAck : BitVec 4 := 8#4
abbrev kindRequest : BitVec 4 := 9#4
abbrev kindEnum : BitVec 4 := 10#4
abbrev kindReset : BitVec 4 := 11#4

/-! ### The CRC (R134) -/

/-- One bit through the check register: generator x^16 + x^12 + x^5 + 1. -/
def crcBit (register : Word) (bit : Bool) : Word :=
  if register.msb != bit then (register <<< 1) ^^^ 0x1021#16 else register <<< 1

/-- One word through the check register, most significant bit first. -/
def crcWord (register w : Word) : Word :=
  (List.range 16).foldl (fun r k => crcBit r (w.getMsbD k)) register

/-- The CRC word over header and payload: preset to all ones, no final inversion (R134). -/
def crc (words : List Word) : Word := words.foldl crcWord 0xFFFF#16

/-! ### A frame and its words (R133) -/

/-- Header word 0: kind, address field, the six low-order bits of the payload length. -/
def headerWord0 (f : Frame) : Word := f.kind ++ f.address ++ BitVec.ofNat 6 f.payload.length

/-- Header word 1: the header extension, and the bit of weight 64 of the payload length. -/
def headerWord1 (f : Frame) : Word := f.extension ++ BitVec.ofNat 1 (f.payload.length / 64)

/-- The words of a frame that the CRC covers, in line order. -/
def coveredWords (f : Frame) : List Word := headerWord0 f :: headerWord1 f :: f.payload

/-- The data words of a frame between its START and its END (R133). -/
def frameWords (f : Frame) : List Word := coveredWords f ++ [crc (coveredWords f)]

/-- The line words of R132: a data word or a marker. -/
inductive LineWord where
  | data (w : Word)
  | idle
  | sync
  | start
  | endMarker
  | abort
  deriving DecidableEq, Repr

/-- A frame on the line, START to END (R133, R144). -/
def frameOnLine (f : Frame) : List LineWord :=
  LineWord.start :: (frameWords f).map LineWord.data ++ [LineWord.endMarker]

/-- The payload length that two header words code, 0..127 (R133). -/
def codedLength (h0 h1 : Word) : Nat := (h0.extractLsb' 0 6).toNat + 64 * (h1.extractLsb' 0 1).toNat

/-- The general checks of R137 on the words between a START and its END, and the frame they carry if they pass.
The check "more than 67 words" is implied: the length is at most 64 and the word count is L + 3. -/
def readFrame : List Word → Option Frame
  | h0 :: h1 :: rest =>
    let l := codedLength h0 h1
    match rest.drop l with
    | [check] =>
      if l ≤ Config.maxPayload ∧ crc (h0 :: h1 :: rest.take l) = check then
        some { kind := h0.extractLsb' 12 4, address := h0.extractLsb' 6 6
               extension := h1.extractLsb' 1 15, payload := rest.take l }
      else none
    | _ => none
  | _ => none

/-- A reception that ends early is faulty, with no END awaited; one that ends with END is judged by R137. -/
def readReception (r : Reception) : Option Frame :=
  match r.closing with
  | .endMarker => readFrame r.words
  | _ => none

/-! ### SAMPLE frames (Table 7-1) -/

/-- The two payload words of a pair. -/
def pairWords (p : Pair) : List Word := [0#11 ++ p.channel, p.value]

/-- The SAMPLE frame as a frame: the pair count and the payload length fit the pairs (R68). -/
def sampleAsFrame (f : SampleFrame) : Frame :=
  { kind := kindSample, address := f.source, extension := f.extension
    payload := (f.sequence ++ BitVec.ofNat 8 f.pairs.length) :: f.pairs.flatMap pairWords }

/-- The pairs that payload words carry: channel words with bits 15..5 clear (R138), two words a pair. -/
def readPairs : List Word → Option (List Pair)
  | [] => some []
  | [_] => none
  | c :: v :: rest =>
    if c.toNat < 32 then (readPairs rest).map (fun ps => { channel := c.setWidth 5, value := v } :: ps) else none

/-- A source address that a sample may carry, and a pair count of 1..16 (R138). -/
def sampleInRange (f : SampleFrame) : Bool :=
  f.source != 0#6 && f.source != 63#6 && 1 ≤ f.pairs.length && f.pairs.length ≤ Config.maxPairs

/-- The SAMPLE frame that a frame of kind SAMPLE carries, if it passes the kind checks of R138. -/
def readSample (f : Frame) : Option SampleFrame :=
  match f.payload with
  | [] => none
  | head :: rest =>
    match readPairs rest with
    | none => none
    | some pairs =>
      let sf : SampleFrame :=
        { source := f.address, extension := f.extension, sequence := head.extractLsb' 8 8, pairs := pairs }
      if (head.extractLsb' 0 8).toNat = pairs.length ∧ sampleInRange sf then some sf else none

/-! ### EVENT frames from upstream, and management requests -/

/-- The kind check of an EVENT frame received on the S port (R138). -/
def eventCountFits (f : Frame) : Bool :=
  match f.payload with
  | [] => false
  | count :: rest => 1 ≤ count.toNat && count.toNat ≤ 8 && rest.length == 7 * count.toNat

/-- A management request of a given command code as a frame (Table 7-1). -/
def requestAsFrame (code : BitVec 8) (r : Request) : Frame :=
  { kind := kindRequest, address := r.address, extension := r.extension
    payload := (r.tag ++ code) :: r.operands }

/-- The command code and the request that a frame of kind MGMT_REQ carries (R164); none for an empty payload,
which R138 calls faulty. -/
def readRequest (f : Frame) : Option (BitVec 8 × Request) :=
  match f.payload with
  | [] => none
  | head :: operands =>
    some (head.extractLsb' 0 8,
      { address := f.address, extension := f.extension, tag := head.extractLsb' 8 8, operands := operands })

/-- The kind checks of R138 for a frame received on a port. -/
def kindChecksPass (port : Port) (f : Frame) : Bool :=
  match port with
  | .s =>
    if f.kind = kindSample then (readSample f).isSome
    else if f.kind = kindEvent then eventCountFits f
    else true
  | .c => if f.kind = kindRequest then (readRequest f).isSome else true

/-- Every check of R137 and R138 on a frame whose words are well formed: its length can be coded and its kind passes. -/
def frameAccepted (port : Port) (f : Frame) : Bool :=
  decide (f.payload.length ≤ Config.maxPayload) && kindChecksPass port f

end Sys2Proof.Machine
end

