-- ==== Sys2Proof/WellFormed.lean ====
section
/-! DEFINITION. The ranges a command's operands must lie in for its row to name it. An ill-formed command still has the
meaning the receive checks and the dispatch give it; well-formedness says that it is the happening its row names. -/

namespace Sys2Proof

open Machine

/-- A request fits a frame: payload length 1 + operand count, at most 64 (R133, R164). -/
def Request.fits (r : Request) : Bool := decide (r.operands.length < Config.maxPayload)

/-- A payload fits a frame (R133). -/
def payloadFits (payload : List Word) : Bool := decide (payload.length ≤ Config.maxPayload)

/-- The command codes the part defines (chapters 1, 2, 4, 5, 6, 8, 9 and 10). -/
def definedCodes : List (BitVec 8) := [1, 2, 3, 4, 5, 16, 17, 18, 19, 32, 33, 34, 35, 36, 48, 49, 50, 51, 52]

/-- The kinds that node control takes from the C port whatever the address and the mode (Table 8-2). -/
def alwaysTaken (port : Port) (kind : BitVec 4) : Bool :=
  port == .c && (kind == kindEnum || kind == kindReset)

/-- A command's operands are those its row of the table speaks of. -/
def Instr.wellFormed : Instr → Bool
  | .powerOn _ => true
  | .syncReceived _ => true
  | .framingError _ _ => true
  | .linkSilenceTimeout _ => true
  | .faultyFrame port r =>
    match readReception r with
    | none => true
    | some f => !frameAccepted port f
  | .sample f => sampleInRange f
  | .forwardUnchanged port f => frameAccepted port f && !alwaysTaken port f.kind
  | .ack _ _ payload => payloadFits payload
  | .enum _ _ payload => payloadFits payload
  | .chainReset _ _ payload => payloadFits payload
  | .tick => true
  | .silenceExpiry _ => true
  | .ackTimerExpiry => true
  | .cPortGrant => true
  | .sPortTransmitStart => true
  | .transmissionComplete _ => true
  | .commitSweepEnd => true
  | .unknownCommand code r => !definedCodes.contains code && r.fits
  | .identify r => r.fits
  | .readStatus r => r.fits
  | .clearStatus r => r.fits
  | .setMode r => r.fits
  | .restart r => r.fits
  | .bind r => r.fits
  | .unbind r => r.fits
  | .modifyBinding r => r.fits
  | .readBinding r => r.fits
  | .loadProfile r => r.fits
  | .clearProfile r => r.fits
  | .copyActive r => r.fits
  | .commit r => r.fits
  | .readProfile r => r.fits
  | .setTick r => r.fits
  | .setDelivery r => r.fits
  | .clearStall r => r.fits
  | .setNotices r => r.fits
  | .setDefault r => r.fits

end Sys2Proof
end

