-- ==== Sys2Proof/Decode.lean ====
section
/-! DEFINITION. The table's words. spec/opcode_table.json gives no row any bits (every row's "fields" is empty and none has
"fixed"), so no word spells a command. The words of the chain's own frames are read in Machine/Frames.lean. -/

namespace Sys2Proof

/-- The command that an opcode-table word spells: none, since the table gives no row bits (notes/assumptions/16). -/
def decodeTableWord (_nbits _w : Nat) : Option Instr := none

end Sys2Proof
end

