-- ==== Sys2Proof/Machine/State.lean ====
section
/-! DEFINITION. The state of the part: everything the manual's blocks hold (Table 0-1 and the tables of each chapter), as
plain data, its power-on value, and the reasons a step can stop. -/

namespace Sys2Proof.Machine

/-! ### Sparse tables -/

/-- A table of `n` slots, some of them empty: the non-empty ones, in strictly ascending index (`Table.wf`). -/
abbrev Table (n : Nat) (α : Type) := List (Fin n × α)

/-- The canonical form of a table: indices strictly ascending, so that equal tables are equal data. -/
abbrev Table.wf {n : Nat} {α : Type} (t : Table n α) : Prop := (t.map Prod.fst).Pairwise (· < ·)

/-! ### Bindings (chapter 1) -/

/-- The mode of the node (R186). -/
inductive Mode where
  | unaddressed
  | transparent
  | filtering
  deriving DecidableEq, Repr

/-- The forwarding policy of a binding (R4). -/
inductive Policy where
  | pass
  | decimate
  | onChange
  | drop
  deriving DecidableEq, Repr

/-- The default policy of the node for pairs without a binding (R158). -/
inductive DefaultPolicy where
  | pass
  | drop
  deriving DecidableEq, Repr

/-- The settle reasons of Table 1-3; RESYNC is carried by records only (R7). -/
inductive Reason where
  | bound
  | reprofiled
  | resumed
  | fresh
  | restarted
  | resync
  deriving DecidableEq, Repr

/-- A candidate zone with its count: both or neither (R6). -/
structure Candidate where
  zone : Nat
  count : Nat
  deriving DecidableEq, Repr

/-- The tracking state with the fields that Table 1-2 gives it: no zone in UNSETTLED; a zone and perhaps a candidate in
TRACKING; the last known zone, if any, in STALE. -/
inductive Tracking where
  | unsettled
  | tracking (zone : Nat) (candidate : Option Candidate)
  | stale (lastZone : Option Nat)
  deriving DecidableEq, Repr

/-- The high and the low latch, which are absent together or present together (R9). -/
structure Latches where
  high : Nat
  low : Nat
  deriving DecidableEq, Repr

/-- A bound entry: the static fields of Table 1-1, then the dynamic fields of Table 1-2. -/
structure Binding where
  source : BitVec 6
  channel : BitVec 5
  profile : Fin 32
  policy : Policy
  factor : Nat
  report : Bool
  limit : Nat
  track : Tracking
  reason : Reason
  lastValue : Option Word
  decimation : Nat
  countdown : Nat
  latches : Option Latches
  resync : Bool
  seen : BitVec 16
  transitions : BitVec 16
  deriving DecidableEq, Repr

/-! ### Profiles (chapter 2) -/

/-- The edge mode of a profile (R26). -/
inductive Edge where
  | none
  | rising
  | falling
  | both
  deriving DecidableEq, Repr

/-- The form a profile was loaded in (R27). -/
inductive Origin where
  | explicit
  | span
  deriving DecidableEq, Repr

/-- A profile (R24, Table 2-1). -/
structure Profile where
  thresholds : List Word
  hysteresis : Nat
  persistence : Nat
  edge : Edge
  origin : Origin
  deriving DecidableEq, Repr

/-- A bank of 32 profile slots (R28). -/
abbrev Bank := Table 32 Profile

/-- The commit sweep in progress: the COMMIT's tag, and whether it was broadcast (§2.4). -/
structure Sweep where
  tag : BitVec 8
  broadcast : Bool
  deriving DecidableEq, Repr

/-! ### Event records (chapter 5) -/

/-- The nine status flags (Table 5-2, R178). -/
inductive Flag where
  | fwdLossC
  | fwdLossS
  | eventLoss
  | ackFault
  | rxFaultS
  | rxFaultC
  | mgmtOverrun
  | linkLossS
  | linkLossC
  deriving DecidableEq, Repr

/-- The delivery state of a record; it carries a sequence number exactly when it is not UNSENT (R92). -/
inductive Delivery where
  | unsent
  | sent (sequence : BitVec 16)
  | resend (sequence : BitVec 16)
  deriving DecidableEq, Repr

/-- The binding index and the key that a record keeps (R89). -/
structure Subject where
  index : Fin 256
  source : BitVec 6
  channel : BitVec 5
  deriving DecidableEq, Repr

/-- What a record reports, with the fields Table 5-1 gives each kind. UP, DOWN and RETURN are the three orders of the
two zones of a transition record (R90, R97; `bodyKindCode`). -/
inductive Body where
  | transition (subject : Subject) (fromZone toZone : Nat) (value : Word)
  | settled (subject : Subject) (toZone : Nat) (value : Option Word) (reason : Reason)
  | stale (subject : Subject) (fromZone : Option Nat)
  | notice (flag : Flag)
  deriving DecidableEq, Repr

/-- An event record (R89). -/
structure Record where
  body : Body
  delivery : Delivery
  mergeCount : Nat
  timestamp : BitVec 32
  deriving DecidableEq, Repr

/-- The reporter state of the delivery engine (R112). -/
inductive Reporter where
  | idle
  | awaiting
  | stalled
  deriving DecidableEq, Repr

/-! ### Ports (chapter 7) -/

/-- The link state of a port with what the port holds in it. A DOWN port holds no counts and no frame (R140, R143); an ACQUIRING
port holds its interval count and whether an interval without a framing error is open (R141); an UP port its consecutive-fault
count (R142). `assembling`: the receiver is inside a frame, whose START it has seen and whose end it has not (R137, R141). The
words of that frame arrive with the command that ends it (notes/assumptions/2). -/
inductive Link where
  | down
  | acquiring (intervals : Nat) (openInterval : Bool) (assembling : Bool)
  | up (faults : Nat) (assembling : Bool)
  deriving DecidableEq, Repr

/-- The frame in transmission on the C port, by the source it was granted to; an EVENT frame of the part keeps the
sequence numbers of its records (R118, R144). -/
inductive CTransmission where
  | forwarded (frame : Frame)
  | response (frame : Frame)
  | event (frame : Frame) (sequences : List (BitVec 16))
  deriving DecidableEq, Repr

/-! ### Management (chapter 9) -/

/-- The status codes of Table 9-2. -/
inductive Status where
  | ok
  | busy
  | unknown
  | malformed
  | range
  | noEntry
  | inUse
  | conflict
  | aborted
  deriving DecidableEq, Repr

/-- A response, as the response queue and the response cache hold it: the request's tag and command code, the status,
and the results, an absent one being `none` (R169, R171). -/
structure Response where
  tag : BitVec 8
  code : BitVec 8
  status : Status
  results : List (Option Word)
  deriving DecidableEq, Repr

/-! ### The state -/

/-- The state of the part. `pending` is the model's own: the commands waiting to be taken (notes/assumptions/1). -/
structure State where
  /-- R190: supply, clock and reset inputs. -/
  pins : Pins
  /-- R186: node address, 0 for none. -/
  address : BitVec 6
  /-- R186: mode. -/
  mode : Mode
  /-- R1: the binding table. -/
  bindings : Table 256 Binding
  /-- R28: the active bank. -/
  activeBank : Bank
  /-- R28: the shadow bank. -/
  shadowBank : Bank
  /-- §2.4: the commit sweep in progress, if any; commit-sweep-running is its presence. -/
  sweep : Option Sweep
  /-- R74: the tick count. -/
  tickCount : BitVec 32
  /-- R74, R76: the period code in force as a setting. -/
  tickPeriod : BitVec 2
  /-- R76, R77: the period code that the tick period in progress runs at. -/
  periodInProgress : BitVec 2
  /-- R88: the event store, oldest first. -/
  store : List Record
  /-- R104: the notice mask. -/
  noticeMask : BitVec 9
  /-- R106: the owed notice marks. -/
  owedNotices : BitVec 9
  /-- R111: the next sequence number. -/
  nextSequence : BitVec 16
  /-- R112: the reporter state. -/
  reporter : Reporter
  /-- R111: the acknowledgement timer; `none` is stopped, `some n` is running with n ticks remaining. -/
  ackTimer : Option Nat
  /-- R125: the retry count. -/
  retryCount : Nat
  /-- R130: the ack timeout. -/
  ackTimeout : Nat
  /-- R130: the retry limit. -/
  retryLimit : Nat
  /-- R140 to R142: the S port's link state. -/
  sLink : Link
  /-- R144: the frame in transmission on the S port. -/
  sTransmission : Option Frame
  /-- R140 to R142: the C port's link state. -/
  cLink : Link
  /-- R144: the frame in transmission on the C port. -/
  cTransmission : Option CTransmission
  /-- R154: the forward queue, oldest first. -/
  forwardQueue : List Frame
  /-- R156: the return queue, oldest first. -/
  returnQueue : List Frame
  /-- R159: the consecutive-forward count. -/
  forwardCount : Nat
  /-- R158: the default policy. -/
  defaultPolicy : DefaultPolicy
  /-- R173: the response queue, oldest first. -/
  responses : List Response
  /-- R169: the response cache, oldest entry first. -/
  cache : List Response
  /-- R178: the status flags, bit n for the flag of code n. -/
  flags : BitVec 9
  /-- The commands waiting, first in first out. -/
  pending : List Instr
  deriving DecidableEq, Repr

/-- The power-on state of every block (R22, R47, R87, R110, R131, R148, R163, R185, R190), with the inputs at `pins`. -/
def State.powerOn (pins : Pins) (pending : List Instr) : State where
  pins := pins
  address := 0
  mode := .unaddressed
  bindings := []
  activeBank := []
  shadowBank := []
  sweep := none
  tickCount := 0
  tickPeriod := 1
  periodInProgress := 1
  store := []
  noticeMask := 0
  owedNotices := 0
  nextSequence := 0
  reporter := .idle
  ackTimer := none
  retryCount := 0
  ackTimeout := Config.defaultAckTimeout
  retryLimit := Config.defaultRetryLimit
  sLink := .down
  sTransmission := none
  cLink := .down
  cTransmission := none
  forwardQueue := []
  returnQueue := []
  forwardCount := 0
  defaultPolicy := .pass
  responses := []
  cache := []
  flags := 0
  pending := pending

/-- The inputs at the end of power-on: power present, clock running, RSTN high (R190). -/
def runningPins : Pins := { power := true, clock := true, resetHigh := true }

/-- The part right after reset: the end of a power-on (R190), with no command waiting. -/
def State.reset : State := State.powerOn runningPins []

/-- No happening of this part stops it with a fault: the manual names no such stop, so there is no fault. -/
inductive Fault where
  deriving DecidableEq, Repr

/-- Why a command has no meaning. -/
inductive Refusal where
  /-- Raised by exec's arm of a command that has no meaning yet. Safe. No arm raises it in this model. -/
  | notModelled (mnemonic : String)
  deriving DecidableEq, Repr

end Sys2Proof.Machine
end

