-- ==== Sys2Proof/Machine/Flags.lean ====
section
/-! DEFINITION. The status record's bits: the nine status flags, the notice mask and the owed notice marks hold one bit for
each flag, at the flag's code (Table 5-2, R178). -/

namespace Sys2Proof.Machine

/-- The notice flag codes of Table 5-2; the mask weight of a flag is 2 to its code. -/
def flagCode : Flag → Nat
  | .fwdLossC => 0
  | .fwdLossS => 1
  | .eventLoss => 2
  | .ackFault => 3
  | .rxFaultS => 4
  | .rxFaultC => 5
  | .mgmtOverrun => 6
  | .linkLossS => 7
  | .linkLossC => 8

/-- The flags in ascending code. -/
def allFlags : List Flag :=
  [.fwdLossC, .fwdLossS, .eventLoss, .ackFault, .rxFaultS, .rxFaultC, .mgmtOverrun, .linkLossS, .linkLossC]

/-- The weight of a flag as a mask. -/
def flagWeight (f : Flag) : BitVec 9 := 1#9 <<< flagCode f

/-- Whether a flag's bit is on. -/
def hasFlag (bits : BitVec 9) (f : Flag) : Bool := bits.getLsbD (flagCode f)

/-- The bits with a flag's bit on. -/
def withFlag (bits : BitVec 9) (f : Flag) : BitVec 9 := bits ||| flagWeight f

/-- The bits with a flag's bit off. -/
def withoutFlag (bits : BitVec 9) (f : Flag) : BitVec 9 := bits &&& ~~~ flagWeight f

/-- The bits with every bit of a mask off (R183). -/
def clearFlags (bits mask : BitVec 9) : BitVec 9 := bits &&& ~~~ mask

/-- The RX_FAULT flag of a port (R139). -/
def rxFaultFlag : Port → Flag
  | .s => .rxFaultS
  | .c => .rxFaultC

/-- The LINK_LOSS flag of a port (R143). -/
def linkLossFlag : Port → Flag
  | .s => .linkLossS
  | .c => .linkLossC

end Sys2Proof.Machine
end

