-- ==== Sys2Proof/Machine/Operands.lean ====
section
/-! DEFINITION. The codes of the manual's names on the wire, the management commands with the operand counts they expect
(Table 9-1), and the readings of operand words. -/

namespace Sys2Proof.Machine

/-! ### Results -/

/-- A present result word. -/
def present (n : Nat) : Option Word := some (BitVec.ofNat 16 n)

/-- A result word that may be absent (R135). -/
def maybe (n : Option Nat) : Option Word := n.map (BitVec.ofNat 16)

/-- A flag as a result word, 0 or 1. -/
def bitResult (b : Bool) : Option Word := present (if b then 1 else 0)

/-! ### Codes -/

/-- Mode codes (R180). -/
def modeCode : Mode → Nat
  | .unaddressed => 0
  | .transparent => 1
  | .filtering => 2

/-- Policy codes (R4). -/
def policyCode : Policy → Nat
  | .pass => 0
  | .decimate => 1
  | .onChange => 2
  | .drop => 3

/-- The policy of a code in 0..3 (R4). -/
def policyOf : Nat → Policy
  | 0 => .pass
  | 1 => .decimate
  | 2 => .onChange
  | _ => .drop

/-- Default policy codes: those of the binding policies (R158). -/
def defaultPolicyCode : DefaultPolicy → Nat
  | .pass => 0
  | .drop => 3

/-- Settle reason codes (Table 1-3). -/
def reasonCode : Reason → Nat
  | .bound => 0
  | .reprofiled => 1
  | .resumed => 2
  | .fresh => 3
  | .restarted => 4
  | .resync => 5

/-- Tracking state codes (Table 1-2). -/
def trackingCode : Tracking → Nat
  | .unsettled => 0
  | .tracking _ _ => 1
  | .stale _ => 2

/-- Edge mode codes (Table 2-1). -/
def edgeCode : Edge → Nat
  | .none => 0
  | .rising => 1
  | .falling => 2
  | .both => 3

/-- The edge mode of a code in 0..3 (Table 2-1). -/
def edgeOf : Nat → Edge
  | 0 => .none
  | 1 => .rising
  | 2 => .falling
  | _ => .both

/-- Origin codes (Table 2-1). -/
def originCode : Origin → Nat
  | .explicit => 0
  | .span => 1

/-- Reporter state codes (Table 6-1). -/
def reporterCode : Reporter → Nat
  | .idle => 0
  | .awaiting => 1
  | .stalled => 2

/-- Status codes (Table 9-2). -/
def statusCode : Status → BitVec 8
  | .ok => 0
  | .busy => 1
  | .unknown => 2
  | .malformed => 3
  | .range => 4
  | .noEntry => 5
  | .inUse => 6
  | .conflict => 7
  | .aborted => 8

/-! ### The zone view of a tracking state (Table 1-2) -/

/-- The zone a binding reads: its zone in TRACKING, the last known zone in STALE. -/
def trackingZone : Tracking → Option Nat
  | .unsettled => none
  | .tracking z _ => some z
  | .stale z => z

/-- The candidate of a binding, in TRACKING alone. -/
def trackingCandidate : Tracking → Option Candidate
  | .tracking _ c => c
  | _ => none

/-! ### Commands -/

/-- The management commands the part defines. -/
inductive Command where
  | identify
  | readStatus
  | clearStatus
  | setMode
  | restart
  | bind
  | unbind
  | modifyBinding
  | readBinding
  | loadProfile
  | clearProfile
  | copyActive
  | commit
  | readProfile
  | setTick
  | setDelivery
  | clearStall
  | setNotices
  | setDefault
  deriving DecidableEq, Repr

/-- The command code of each command, from the rule that specifies it. -/
def commandCode : Command → BitVec 8
  | .identify => 1
  | .readStatus => 2
  | .clearStatus => 3
  | .setMode => 4
  | .restart => 5
  | .bind => 16
  | .unbind => 17
  | .modifyBinding => 18
  | .readBinding => 19
  | .loadProfile => 32
  | .clearProfile => 33
  | .copyActive => 34
  | .commit => 35
  | .readProfile => 36
  | .setTick => 48
  | .setDelivery => 49
  | .clearStall => 50
  | .setNotices => 51
  | .setDefault => 52

/-- The commands the part defines, in ascending code. -/
def allCommands : List Command :=
  [.identify, .readStatus, .clearStatus, .setMode, .restart, .bind, .unbind, .modifyBinding, .readBinding, .loadProfile,
    .clearProfile, .copyActive, .commit, .readProfile, .setTick, .setDelivery, .clearStall, .setNotices, .setDefault]

/-- The command of a code, if the part defines one (R168). -/
def commandOf (code : BitVec 8) : Option Command := allCommands.find? fun c => commandCode c == code

/-! ### MODIFY_BINDING's presence mask (R18) -/

/-- The fields a presence mask names, lowest weight first; a mask above 31 names by its lowest five weights. -/
def namedFields (mask : Word) : Nat :=
  ((List.range 5).filter fun k => mask.getLsbD k).length

/-- The new values a MODIFY_BINDING gives, one for each field its mask names. -/
structure Changes where
  profile : Option Word
  policy : Option Word
  factor : Option Word
  report : Option Word
  limit : Option Word
  deriving DecidableEq, Repr

/-- The value of a field, if it is named, and the operands after it. -/
def takeField (named : Bool) (operands : List Word) : Option Word × List Word :=
  if named then (operands.head?, operands.tail) else (none, operands)

/-- The operands after the mask, in the order profile index, policy, factor, report enable, silence limit (R18). -/
def readChanges (mask : Word) (operands : List Word) : Changes :=
  let (profile, rest1) := takeField (mask.getLsbD 0) operands
  let (policy, rest2) := takeField (mask.getLsbD 1) rest1
  let (factor, rest3) := takeField (mask.getLsbD 2) rest2
  let (report, rest4) := takeField (mask.getLsbD 3) rest3
  let (limit, _) := takeField (mask.getLsbD 4) rest4
  { profile := profile, policy := policy, factor := factor, report := report, limit := limit }

/-! ### Ranges of operands (R15) -/

/-- A word in low..high, read unsigned. -/
def inRange (low high : Nat) (w : Word) : Bool := low ≤ w.toNat && w.toNat ≤ high

/-- An optional new value is in its range, or not given. -/
def givenInRange (low high : Nat) (w : Option Word) : Bool := w.all (inRange low high)

/-- The ranges of R15 for the values a MODIFY_BINDING gives; the silence limit takes every value. -/
def changesInRange (c : Changes) : Bool :=
  givenInRange 0 31 c.profile && givenInRange 0 3 c.policy && givenInRange 1 255 c.factor && givenInRange 0 1 c.report

/-! ### Expected operand counts (Table 9-1) -/

/-- The count LOAD_PROFILE expects, by its form word (R30). -/
def loadCountFits (operands : List Word) : Bool :=
  match operands with
  | _ :: form :: _ :: _ :: _ :: sixth :: _ =>
    if form = 1 then operands.length == 8
    else inRange 1 15 sixth && operands.length == 6 + sixth.toNat
  | _ => false

/-- The count MODIFY_BINDING expects, by its presence mask (R18). -/
def modifyCountFits (operands : List Word) : Bool :=
  match operands with
  | _ :: mask :: rest => rest.length == namedFields mask
  | _ => false

/-- Whether a request carries the operands its command expects (Table 9-1). -/
def operandCountFits (c : Command) (operands : List Word) : Bool :=
  match c with
  | .identify => operands.length == 0
  | .readStatus => operands.length == 0
  | .clearStatus => operands.length == 1
  | .setMode => operands.length == 1
  | .restart => operands.length == 0
  | .bind => operands.length == 8
  | .unbind => operands.length == 1
  | .modifyBinding => modifyCountFits operands
  | .readBinding => operands.length == 2
  | .loadProfile => loadCountFits operands
  | .clearProfile => operands.length == 1
  | .copyActive => operands.length == 0
  | .commit => operands.length == 0
  | .readProfile => operands.length == 2
  | .setTick => operands.length == 1
  | .setDelivery => operands.length == 2
  | .clearStall => operands.length == 0
  | .setNotices => operands.length == 1
  | .setDefault => operands.length == 1

end Sys2Proof.Machine
end

