-- ==== Sys2Proof/Machine/Layouts.lean ====
section
/-! DEFINITION. The layouts of the frames the part originates: EVENT frames with their records, and MGMT_RSP frames with
their absence masks (Table 7-1, R115, R135, R172). -/

namespace Sys2Proof.Machine

/-! ### Records -/

/-- The kind code of a record. A transition record is UP, DOWN or RETURN by the order of its two zones (R90, R97). -/
def bodyKindCode : Body → BitVec 4
  | .transition _ fromZone toZone _ => if fromZone < toZone then 0 else if toZone < fromZone then 1 else 2
  | .stale _ _ => 3
  | .settled _ _ _ _ => 4
  | .notice _ => 5

/-- The detail field: settle reason for STATE, flag code for NOTICE, 15 for other kinds. -/
def bodyDetail : Body → BitVec 4
  | .settled _ _ _ reason => BitVec.ofNat 4 (reasonCode reason)
  | .notice flag => BitVec.ofNat 4 (flagCode flag)
  | _ => 15

/-- The binding a record is of; none for NOTICE. -/
def bodySubject : Body → Option Subject
  | .transition subject _ _ _ => some subject
  | .settled subject _ _ _ => some subject
  | .stale subject _ => some subject
  | .notice _ => none

/-- The from-zone of a record, where its kind has one (Table 5-1). -/
def bodyFromZone : Body → Option Nat
  | .transition _ z _ _ => some z
  | .stale _ z => z
  | _ => none

/-- The to-zone of a record, where its kind has one (Table 5-1). -/
def bodyToZone : Body → Option Nat
  | .transition _ _ z _ => some z
  | .settled _ z _ _ => some z
  | _ => none

/-- The value of a record, where it has one (Table 5-1). -/
def bodyValue : Body → Option Word
  | .transition _ _ _ v => some v
  | .settled _ _ v _ => v
  | _ => none

/-- A zone field: 31 when absent. -/
def zoneField (z : Option Nat) : BitVec 5 := BitVec.ofNat 5 (z.getD 31)

/-- The sequence number a record carries (R92). -/
def recordSequence (r : Record) : Option (BitVec 16) :=
  match r.delivery with
  | .unsent => none
  | .sent n => some n
  | .resend n => some n

/-- The seven words of a record in an EVENT frame (Table 7-1). -/
def recordWords (r : Record) : List Word :=
  let subject := bodySubject r.body
  [ (recordSequence r).getD 0,
    bodyKindCode r.body ++ bodyDetail r.body ++ BitVec.ofNat 8 r.mergeCount,
    BitVec.ofNat 8 (subject.elim 0 fun t => t.index.val) ++ 0#2 ++ subject.elim 0#6 Subject.source,
    subject.elim 0#5 Subject.channel ++ zoneField (bodyFromZone r.body) ++ zoneField (bodyToZone r.body)
      ++ BitVec.ofBool (bodyValue r.body).isSome,
    (bodyValue r.body).getD 0,
    r.timestamp.extractLsb' 16 16,
    r.timestamp.extractLsb' 0 16 ]

/-- The EVENT frame that carries records, with the node address at the assembly and a header extension of 0 (R115). -/
def eventFrame (address : BitVec 6) (records : List Record) : Frame :=
  { kind := kindEvent, address := address, extension := 0
    payload := BitVec.ofNat 16 records.length :: records.flatMap recordWords }

/-! ### Responses -/

/-- The mask word of sixteen results: bit n−1 set where result n is absent (R135). -/
def absenceMask : List (Option Word) → Word
  | [] => 0
  | r :: rest => (if r.isNone then 1#16 else 0#16) ||| (absenceMask rest <<< 1)

/-- The MGMT_RSP frame of a response, with the node address at its grant (R172). -/
def responseFrame (address : BitVec 6) (r : Response) : Frame :=
  { kind := kindResponse, address := address, extension := 0
    payload :=
      [ r.tag ++ statusCode r.status,
        r.code ++ BitVec.ofNat 8 r.results.length,
        absenceMask (r.results.take 16),
        absenceMask ((r.results.drop 16).take 16) ] ++ r.results.map (fun w => w.getD 0) }

end Sys2Proof.Machine
end

