-- ==== Sys2Proof/Machine/Ops.lean ====
section
/-! DEFINITION. The named operations over the state that several commands share: tables, the event store and the status
flags, unsettling, queues, links and the reception of a frame, and responses. -/

namespace Sys2Proof.Machine

/-! ### Tables -/

/-- The content of a slot, if it is non-empty. -/
def Table.lookup {n : Nat} {α : Type} (t : Table n α) (i : Fin n) : Option α :=
  match t with
  | [] => none
  | (j, a) :: rest => if j = i then some a else Table.lookup rest i

/-- The table with a slot filled, in its place by index. -/
def Table.put {n : Nat} {α : Type} (t : Table n α) (i : Fin n) (a : α) : Table n α :=
  match t with
  | [] => [(i, a)]
  | (j, b) :: rest =>
    if i < j then (i, a) :: (j, b) :: rest
    else if j = i then (i, a) :: rest
    else (j, b) :: Table.put rest i a

/-- The table with a slot emptied. -/
def Table.remove {n : Nat} {α : Type} (t : Table n α) (i : Fin n) : Table n α :=
  t.filter fun e => e.1 != i

/-- The table with every non-empty slot's content changed by a function. -/
def Table.mapContents {n : Nat} {α : Type} (f : α → α) (t : Table n α) : Table n α :=
  t.map fun e => (e.1, f e.2)

/-! ### Bindings -/

/-- The state with the entry at an index bound as given. -/
def setBinding (i : Fin 256) (b : Binding) (s : State) : State :=
  { s with bindings := s.bindings.put i b }

/-- The binding index and key a record of the binding keeps (R89). -/
def subjectOf (i : Fin 256) (b : Binding) : Subject := { index := i, source := b.source, channel := b.channel }

/-- Whether a binding's key is the given channel (R12). -/
def hasKey (source : BitVec 6) (channel : BitVec 5) (b : Binding) : Bool :=
  b.source == source && b.channel == channel

/-- The bound entry whose key is the given channel, if there is one (R12). -/
def findKey (source : BitVec 6) (channel : BitVec 5) (s : State) : Option (Fin 256 × Binding) :=
  s.bindings.find? fun e => hasKey source channel e.2

/-- To unsettle a binding (R8): for the reasons REPROFILED and RESUMED; REPROFILED also clears the latches. -/
def unsettle (reason : Reason) (b : Binding) : Binding :=
  { b with
    track := .unsettled
    reason := reason
    countdown := b.limit
    latches := if reason = .reprofiled then none else b.latches }

/-- The dynamic fields that a chain reset or a node restart leaves (R23). -/
def resetDynamic (b : Binding) : Binding :=
  { b with
    track := .unsettled
    reason := .restarted
    lastValue := none
    decimation := 0
    countdown := b.limit
    latches := none
    resync := false
    seen := 0
    transitions := 0 }

/-! ### The event store and the status flags -/

/-- A record as it is created: unnumbered, UNSENT, merge count 1, stamped with the tick count (R60, R89). -/
def newRecord (body : Body) (s : State) : Record :=
  { body := body, delivery := .unsent, mergeCount := 1, timestamp := s.tickCount }

/-- A record appended behind every record of the store (R94). -/
def appendRecord (body : Body) (s : State) : State :=
  { s with store := s.store ++ [newRecord body s] }

/-- A NOTICE record offered: appended, or dropped with its owed mark set at a full store (R94, R106). -/
def offerNotice (f : Flag) (s : State) : State :=
  if s.store.length < Config.storeCapacity then appendRecord (.notice f) s
  else { s with owedNotices := withFlag s.owedNotices f }

/-- A status flag set by its cause. Going from clear to set with its bit of the notice mask on, it offers its NOTICE
record within the happening (R105, R178). -/
def raiseFlag (f : Flag) (s : State) : State :=
  if hasFlag s.flags f then s
  else if hasFlag s.noticeMask f then offerNotice f { s with flags := withFlag s.flags f }
  else { s with flags := withFlag s.flags f }

/-- A failed insertion: the binding's resync pending mark and EVENT_LOSS are set (R98). -/
def failedInsertion (i : Fin 256) (s : State) : State :=
  raiseFlag .eventLoss
    (match s.bindings.lookup i with
     | some b => setBinding i { b with resync := true } s
     | none => s)

/-- Whether a record is an UNSENT record of a binding index. -/
def unsentOf (i : Fin 256) (r : Record) : Bool :=
  r.delivery == .unsent && (bodySubject r.body).any fun t => t.index == i

/-- A transition merged into a record that is a merge target (R97): the from-zone is kept, the merge count saturates. -/
def mergedRecord (target : Record) (subject : Subject) (fromZone toZone : Nat) (value : Word) (now : BitVec 32) : Record :=
  { target with
    body := .transition subject fromZone toZone value
    mergeCount := min Config.maxMergeCount (target.mergeCount + 1)
    timestamp := now }

/-- The store, newest first, with a transition merged into the newest UNSENT record of the binding, if that record is a
transition record (R96). -/
def mergeNewest (i : Fin 256) (toZone : Nat) (value : Word) (now : BitVec 32) : List Record → Option (List Record)
  | [] => none
  | r :: older =>
    if unsentOf i r then
      match r.body with
      | .transition subject fromZone _ _ => some (mergedRecord r subject fromZone toZone value now :: older)
      | _ => none
    else (mergeNewest i toZone value now older).map fun rest => r :: rest

/-- Whether the binding's resync pending mark is set (R96). -/
def resyncPending (i : Fin 256) (s : State) : Bool := (s.bindings.lookup i).any Binding.resync

/-- The full store with an offered transition merged into its merge target, if it has one (R96, R97). -/
def mergeIntoStore (i : Fin 256) (toZone : Nat) (value : Word) (s : State) : Option (List Record) :=
  if resyncPending i s then none
  else (mergeNewest i toZone value s.tickCount s.store.reverse).map List.reverse

/-- A record offered to the store (R94): appended while there is room; at a full store merged, failed or dropped by kind. -/
def offerRecord (body : Body) (s : State) : State :=
  if s.store.length < Config.storeCapacity then appendRecord body s
  else
    match body with
    | .transition subject _ toZone value =>
      match mergeIntoStore subject.index toZone value s with
      | some store => { s with store := store }
      | none => failedInsertion subject.index s
    | .settled subject _ _ _ => failedInsertion subject.index s
    | .stale subject _ => failedInsertion subject.index s
    | .notice f => offerNotice f s

/-- The number of numbered records of the store (R93). -/
def numberedCount (store : List Record) : Nat := store.countP fun r => (recordSequence r).isSome

/-- A SENT record made RESEND, keeping its number (R92). -/
def sentToResend (r : Record) : Record :=
  match r.delivery with
  | .sent n => { r with delivery := .resend n }
  | _ => r

/-! ### The forward and return queues -/

/-- A frame placed in the forward queue, or lost with FWD_LOSS_C at a full one (R154, R155). -/
def placeForward (f : Frame) (s : State) : State :=
  if s.forwardQueue.length < Config.queueCapacity then { s with forwardQueue := s.forwardQueue ++ [f] }
  else raiseFlag .fwdLossC s

/-- The S transmitter takes the oldest frame of the return queue, where the S port is UP and the transmitter idle (R156). -/
def startSTransmission (s : State) : State :=
  match s.sLink, s.sTransmission, s.returnQueue with
  | .up _ _, none, f :: rest => { s with sTransmission := some f, returnQueue := rest }
  | _, _, _ => s

/-- A frame placed in the return queue, which an idle S transmitter serves within the happening, or lost with FWD_LOSS_S
at a full one (R155, R156). -/
def placeReturn (f : Frame) (s : State) : State :=
  if s.returnQueue.length < Config.queueCapacity then startSTransmission { s with returnQueue := s.returnQueue ++ [f] }
  else raiseFlag .fwdLossS s

/-- A frame placed unchanged in the queue toward the port opposite the one it arrived on (R149, R150). -/
def placeOpposite (port : Port) (f : Frame) (s : State) : State :=
  match port with
  | .s => placeForward f s
  | .c => placeReturn f s

/-! ### Links -/

/-- The link state of a port. -/
def linkOf (port : Port) (s : State) : Link :=
  match port with
  | .s => s.sLink
  | .c => s.cLink

/-- The state with a port's link state. -/
def setLink (port : Port) (l : Link) (s : State) : State :=
  match port with
  | .s => { s with sLink := l }
  | .c => { s with cLink := l }

/-- The move of an ACQUIRING port to UP, its fault count at 0 (R141, R142); the S transmitter then takes the oldest frame
that waits (R156). -/
def linkUp (port : Port) (s : State) : State :=
  match port with
  | .s => startSTransmission { s with sLink := .up 0 false }
  | .c => { s with cLink := .up 0 false }

/-- The effect of the abort of a frame of the delivery engine on a record: SENT becomes RESEND if the frame carries it (R118). -/
def abortRecord (sequences : List (BitVec 16)) (r : Record) : Record :=
  match r.delivery with
  | .sent n => if n ∈ sequences then { r with delivery := .resend n } else r
  | _ => r

/-- The abort of the C port's transmission by its link going DOWN (R118, R146). -/
def abortCTransmission (s : State) : State :=
  match s.cTransmission with
  | some (.event _ sequences) =>
    { s with cTransmission := none, store := s.store.map (abortRecord sequences) }
  | _ => { s with cTransmission := none }

/-- The move of an UP port to DOWN (R143): flag, abort, emptied queues, no counts. -/
def linkDown (port : Port) (s : State) : State :=
  match port with
  | .s => { raiseFlag .linkLossS s with sLink := .down, sTransmission := none, returnQueue := [] }
  | .c =>
    { abortCTransmission (raiseFlag .linkLossC s) with cLink := .down, forwardQueue := [], responses := [] }

/-- A faulty frame (R139): discarded, flagged and counted while the port is UP; at 16 consecutive faults the link goes
DOWN within the happening. In ACQUIRING the receiver is then outside a frame, and in DOWN nothing changes. -/
def faultyReception (port : Port) (s : State) : State :=
  match linkOf port s with
  | .up faults _ =>
    let s1 := raiseFlag (rxFaultFlag port) s
    if faults + 1 < Config.faultLimit then setLink port (.up (faults + 1) false) s1 else linkDown port s1
  | .acquiring n opened _ => setLink port (.acquiring n opened false) s
  | .down => s

/-- A frame whose END arrives at a port (R138, R139): while the port is UP, accepted and routed with the fault count set
to 0, or faulty; otherwise discarded, with no flag and no count. -/
def receiveFrame (port : Port) (accepted : Bool) (route : State → State) (s : State) : State :=
  match linkOf port s with
  | .up _ _ => if accepted then route (setLink port (.up 0 false) s) else faultyReception port s
  | _ => faultyReception port s

/-! ### Responses -/

/-- What executing a request leaves the agent to do: answer it, or (COMMIT, whose sweep begins) answer it later (R168). -/
inductive Reply where
  | answer (status : Status) (results : List (Option Word))
  | later
  deriving DecidableEq, Repr

/-- A refused request changes no state (R168). -/
def refuse (status : Status) (s : State) : State × Reply := (s, .answer status [])

/-- A response placed at the back of the response queue, or not queued with MGMT_OVERRUN at a full one (R173, R174). -/
def queueResponse (r : Response) (s : State) : State :=
  if s.responses.length < Config.agentCapacity then { s with responses := s.responses ++ [r] }
  else raiseFlag .mgmtOverrun s

/-- The response cache with an entry made for a response (R169): an entry of the same tag is removed, else the oldest of
four; the new entry is the newest. -/
def cacheWith (r : Response) (cache : List Response) : List Response :=
  if cache.any fun e => e.tag == r.tag then (cache.filter fun e => e.tag != r.tag) ++ [r]
  else if cache.length < Config.agentCapacity then cache ++ [r]
  else cache.tail ++ [r]

/-- A response queued and entered in the cache (R168, R169). -/
def respond (r : Response) (s : State) : State :=
  let s1 := queueResponse r s
  { s1 with cache := cacheWith r s1.cache }

end Sys2Proof.Machine
end

