-- ==== Sys2Proof/Machine/Scheduler.lean ====
section
/-! DEFINITION. The C-port scheduler (R159, R160) with the assembly of an EVENT frame at a grant to delivery (R113 to R115), and
what every command does around its own effect: the inputs that hold the part, and the grant that follows. -/

namespace Sys2Proof.Machine

/-! ### Assembly of an EVENT frame (R113 to R115) -/

/-- Whether a record waits to be sent. -/
def awaitsSending (r : Record) : Bool :=
  match r.delivery with
  | .sent _ => false
  | _ => true

/-- Readiness of the delivery engine (R113). -/
def deliveryReady (s : State) : Bool :=
  s.mode != .unaddressed && s.reporter != .stalled && s.store.any awaitsSending

/-- What an assembly makes of a store: the store after it, the records taken in frame order, the next sequence number. -/
structure Assembly where
  store : List Record
  taken : List Record
  nextSequence : BitVec 16
  deriving DecidableEq, Repr

/-- A record that an assembly leaves as it is. -/
def Assembly.keep (r : Record) (a : Assembly) : Assembly := { a with store := r :: a.store }

/-- A record that an assembly takes. -/
def Assembly.take (r : Record) (a : Assembly) : Assembly := { a with store := r :: a.store, taken := r :: a.taken }

/-- The store gone through oldest first, taking at most `resends` RESEND records and `unsents` UNSENT ones; each record taken
becomes SENT, an unnumbered one with the next sequence number (R114, R115). -/
def takeRecords (resends unsents : Nat) (next : BitVec 16) : List Record → Assembly
  | [] => { store := [], taken := [], nextSequence := next }
  | r :: rest =>
    match r.delivery with
    | .sent _ => (takeRecords resends unsents next rest).keep r
    | .resend n =>
      if 0 < resends then (takeRecords (resends - 1) unsents next rest).take { r with delivery := .sent n }
      else (takeRecords resends unsents next rest).keep r
    | .unsent =>
      if 0 < unsents then (takeRecords resends (unsents - 1) (next + 1) rest).take { r with delivery := .sent next }
      else (takeRecords resends unsents next rest).keep r

/-- Whether a record is RESEND. -/
def isResend (r : Record) : Bool :=
  match r.delivery with
  | .resend _ => true
  | _ => false

/-- The assembly of one frame: RESEND records first, up to 8; UNSENT ones only in the places they leave (R114). -/
def assemble (store : List Record) (next : BitVec 16) : Assembly :=
  takeRecords Config.recordsPerFrame (Config.recordsPerFrame - store.countP isResend) next store

/-- A grant to delivery: the frame assembled and in transmission, the reporter out of IDLE (R115, R160). -/
def grantDelivery (s : State) : State :=
  let a := assemble s.store s.nextSequence
  { s with
    store := a.store
    nextSequence := a.nextSequence
    reporter := match s.reporter with
      | .idle => .awaiting
      | r => r
    cTransmission := some (.event (eventFrame s.address a.taken) (a.taken.filterMap recordSequence))
    forwardCount := 0 }

/-! ### The C-port scheduler (R159, R160) -/

/-- The choice of R160 at a grant; with nothing to send, no grant. -/
def grantChoice (s : State) : State :=
  match s.responses with
  | r :: rest =>
    { s with responses := rest, cTransmission := some (.response (responseFrame s.address r)), forwardCount := 0 }
  | [] =>
    if deliveryReady s && s.forwardCount == Config.maxForwardCount then grantDelivery s
    else
      match s.forwardQueue with
      | f :: rest =>
        { s with
          forwardQueue := rest
          cTransmission := some (.forwarded f)
          forwardCount := min Config.maxForwardCount (s.forwardCount + 1) }
      | [] => if deliveryReady s then grantDelivery s else s

/-- The scheduler's happening: a grant, where the C port is UP, its transmitter idle and a source has something to send (R159). -/
def grantStep (s : State) : State :=
  match s.cLink, s.cTransmission with
  | .up _ _, none => grantChoice s
  | _, _ => s

/-! ### Commands -/

/-- While power rises, the clock is stopped or RSTN is low, the part takes no happening but POWER_ON (R190). Else it takes the
command's whole, and the scheduler then makes the grant that this makes due, if any (R159; notes/assumptions/6). -/
def whenRunning (f : State → State) (s : State) : Host.Outcome State Fault Refusal :=
  .next (if s.pins = runningPins then grantStep (f s) else s)

end Sys2Proof.Machine
end

