-- ==== Sys2Proof/Machine/NodeControl.lean ====
section
/-! DEFINITION. Node control (chapter 10): enumeration, chain reset, SET_MODE and the node restart. -/

namespace Sys2Proof.Machine

/-! ### Enumeration (R187, R188) -/

/-- An address field that gives an address: 1..62 (R187). -/
def givesAddress (a : BitVec 6) : Bool := a != 0#6 && a != Config.broadcastAddress

/-- The address field of the ENUM passed on (R187). -/
def enumPassedOn (a : BitVec 6) : BitVec 6 := if givesAddress a then a + 1 else a

/-- Node control's part of an ENUM: an addressed node keeps its mode, an UNADDRESSED one becomes FILTERING (R187). -/
def takeAddress (a : BitVec 6) (s : State) : State :=
  if givesAddress a then
    { s with
      address := a
      mode := match s.mode with
        | .unaddressed => .filtering
        | m => m }
  else s

/-- An ENUM accepted on the C port, then placed in the return queue with its new address field (R150, R187). -/
def routeEnum (address : BitVec 6) (extension : BitVec 15) (payload : List Word) (s : State) : State :=
  placeReturn { kind := kindEnum, address := enumPassedOn address, extension := extension, payload := payload }
    (takeAddress address s)

/-- ENUM. -/
def execEnum (address : BitVec 6) (extension : BitVec 15) (payload : List Word) (s : State) :
    Host.Outcome State Fault Refusal :=
  whenRunning (receiveFrame .c (decide (payload.length ≤ Config.maxPayload)) (routeEnum address extension payload)) s

/-! ### Chain reset (R191) -/

/-- The chain-reset state of every block (R23, R45, R87, R110, R131, R148, R163, R185). -/
def chainResetBlocks (s : State) : State :=
  { s with
    sTransmission := none
    cTransmission := none
    address := 0
    mode := .unaddressed
    bindings := s.bindings.mapContents resetDynamic
    sweep := none
    store := []
    owedNotices := 0
    reporter := .idle
    ackTimer := none
    retryCount := 0
    forwardQueue := []
    returnQueue := []
    forwardCount := 0
    responses := []
    cache := []
    flags := 0 }

/-- A RESET accepted on the C port: the chain reset, then the frame joins the emptied return queue, so that it is the first
frame the S transmitter sends after the reset, at once where the S port is UP (R152, R191). -/
def routeReset (address : BitVec 6) (extension : BitVec 15) (payload : List Word) (s : State) : State :=
  placeReturn { kind := kindReset, address := address, extension := extension, payload := payload } (chainResetBlocks s)

/-- CHAIN_RESET. -/
def execChainReset (address : BitVec 6) (extension : BitVec 15) (payload : List Word) (s : State) :
    Host.Outcome State Fault Refusal :=
  whenRunning (receiveFrame .c (decide (payload.length ≤ Config.maxPayload)) (routeReset address extension payload)) s

/-! ### SET_MODE (R192) -/

/-- The mode set; a return from TRANSPARENT to FILTERING unsettles every bound binding with reason RESUMED (R192). -/
def changeMode (m : Mode) (s : State) : State :=
  match s.mode, m with
  | .transparent, .filtering =>
    { s with mode := .filtering, bindings := s.bindings.mapContents (unsettle .resumed) }
  | _, _ => { s with mode := m }

/-- SET_MODE: BUSY, RANGE for a code other than 1 and 2, else the mode, answered with the mode before (R192). -/
def setModeRequest (operands : List Word) (s : State) : State × Reply :=
  match operands with
  | [code] =>
    if s.sweep.isSome then refuse .busy s
    else if code = 1 then (changeMode .transparent s, .answer .ok [present (modeCode s.mode)])
    else if code = 2 then (changeMode .filtering s, .answer .ok [present (modeCode s.mode)])
    else refuse .range s
  | _ => refuse .malformed s

/-! ### The node restart (R194) -/

/-- The C transmission after a node restart: an EVENT frame is aborted, the part's own or one of an upstream filter that it
forwards; every other frame runs on (R146, R163, R194). -/
def transmissionAfterRestart : Option CTransmission → Option CTransmission
  | some (.event _ _) => none
  | some (.forwarded f) => if f.kind = kindEvent then none else some (.forwarded f)
  | other => other

/-- Steps 1 to 3 of R194, with the sweep state gone (R23, R46, R87, R110, R131, R148, R163, R185). -/
def restartBlocks (s : State) : State :=
  { s with
    cTransmission := transmissionAfterRestart s.cTransmission
    flags := 0
    cache := []
    bindings := s.bindings.mapContents resetDynamic
    store := []
    owedNotices := 0
    reporter := .idle
    ackTimer := none
    retryCount := 0
    forwardCount := 0
    sweep := none }

/-- Step 4 of R194: the ABORTED response of a unicast COMMIT whose sweep is abandoned, with no cache entry (R46). -/
def abortSweep (sweep : Option Sweep) (s : State) : State :=
  match sweep with
  | some w =>
    if w.broadcast then s
    else queueResponse { tag := w.tag, code := commandCode .commit, status := .aborted, results := [] } s
  | none => s

/-- RESTART: steps 1 to 4 of R194; its answer is the number of records removed. -/
def restartRequest (operands : List Word) (s : State) : State × Reply :=
  match operands with
  | [] => (abortSweep s.sweep (restartBlocks s), .answer .ok [present s.store.length])
  | _ => refuse .malformed s

end Sys2Proof.Machine
end

