-- ==== Sys2Proof/Machine/BindingCommands.lean ====
section
/-! DEFINITION. The binding commands BIND, UNBIND, MODIFY_BINDING and READ_BINDING (§1.4): checks in the order of their rules,
effects and results. The agent has tested the operand count (R168); a list of another length is answered MALFORMED here too. -/

namespace Sys2Proof.Machine

/-- The binding index of an operand that lies in 0..255. -/
def indexOf (w : Word) : Fin 256 := Fin.ofNat 256 w.toNat

/-- The slot index of an operand that lies in 0..31. -/
def slotOf (w : Word) : Fin 32 := Fin.ofNat 32 w.toNat

/-! ### BIND (R15, R16) -/

/-- The ranges of BIND's operands; the silence limit takes every value (R15). -/
def bindInRange (index source channel profile policy factor report : Word) : Bool :=
  inRange 0 255 index && inRange 1 62 source && inRange 0 31 channel && inRange 0 31 profile && inRange 0 3 policy
    && inRange 1 255 factor && inRange 0 1 report

/-- The fields of an entry that BIND binds (R16). -/
def newBinding (source channel profile policy factor report limit : Word) : Binding where
  source := source.setWidth 6
  channel := channel.setWidth 5
  profile := slotOf profile
  policy := policyOf policy.toNat
  factor := factor.toNat
  report := report == 1
  limit := limit.toNat
  track := .unsettled
  reason := .bound
  lastValue := none
  decimation := 0
  countdown := limit.toNat
  latches := none
  resync := false
  seen := 0
  transitions := 0

/-- BIND: BUSY, RANGE, IN_USE, CONFLICT, NO_ENTRY, else the entry is bound (R15). -/
def bindRequest (operands : List Word) (s : State) : State × Reply :=
  match operands with
  | [index, source, channel, profile, policy, factor, report, limit] =>
    if s.sweep.isSome then refuse .busy s
    else if !bindInRange index source channel profile policy factor report then refuse .range s
    else if (s.bindings.lookup (indexOf index)).isSome then refuse .inUse s
    else if (findKey (source.setWidth 6) (channel.setWidth 5) s).isSome then refuse .conflict s
    else if (s.activeBank.lookup (slotOf profile)).isNone then refuse .noEntry s
    else
      (setBinding (indexOf index) (newBinding source channel profile policy factor report limit) s, .answer .ok [])
  | _ => refuse .malformed s

/-! ### UNBIND (R17, R109) -/

/-- UNBIND: BUSY, RANGE, NO_ENTRY, else the entry is freed and its UNSENT records are removed and counted (R17). -/
def unbindRequest (operands : List Word) (s : State) : State × Reply :=
  match operands with
  | [index] =>
    if s.sweep.isSome then refuse .busy s
    else if !inRange 0 255 index then refuse .range s
    else if (s.bindings.lookup (indexOf index)).isNone then refuse .noEntry s
    else
      ({ s with
          bindings := s.bindings.remove (indexOf index)
          store := s.store.filter fun r => !unsentOf (indexOf index) r },
        .answer .ok [present (s.store.countP (unsentOf (indexOf index)))])
  | _ => refuse .malformed s

/-! ### MODIFY_BINDING (R18, R19) -/

/-- The named static fields written with their new values. -/
def writeChanges (c : Changes) (b : Binding) : Binding :=
  { b with
    profile := c.profile.elim b.profile slotOf
    policy := c.policy.elim b.policy fun w => policyOf w.toNat
    factor := c.factor.elim b.factor BitVec.toNat
    report := c.report.elim b.report fun w => w == 1
    limit := c.limit.elim b.limit BitVec.toNat }

/-- The dynamic fields that follow from what differs between the entry before and after (R19). -/
def followChanges (old new : Binding) : Binding :=
  let counted := if new.policy ≠ old.policy ∨ new.factor ≠ old.factor then { new with decimation := 0 } else new
  let reloaded := if new.limit ≠ old.limit then { counted with countdown := new.limit } else counted
  if new.profile ≠ old.profile then unsettle .reprofiled reloaded else reloaded

/-- An entry after a successful MODIFY_BINDING (R19). -/
def modifiedBinding (c : Changes) (b : Binding) : Binding := followChanges b (writeChanges c b)

/-- MODIFY_BINDING: BUSY, RANGE, NO_ENTRY for a free entry, NO_ENTRY for an empty slot, else the changes (R18). -/
def modifyBindingRequest (operands : List Word) (s : State) : State × Reply :=
  match operands with
  | index :: mask :: values =>
    let c := readChanges mask values
    if s.sweep.isSome then refuse .busy s
    else if !(inRange 0 255 index && inRange 0 31 mask && changesInRange c) then refuse .range s
    else
      match s.bindings.lookup (indexOf index) with
      | none => refuse .noEntry s
      | some b =>
        if c.profile.any fun w => (s.activeBank.lookup (slotOf w)).isNone then refuse .noEntry s
        else (setBinding (indexOf index) (modifiedBinding c b) s, .answer .ok [])
  | _ => refuse .malformed s

/-! ### READ_BINDING (R20, R21) -/

/-- The results of Table 1-4. -/
def bindingResults (i : Fin 256) (b : Binding) : List (Option Word) :=
  [ present i.val, present b.source.toNat, present b.channel.toNat, present b.profile.val,
    present (policyCode b.policy), present b.factor, bitResult b.report, present b.limit,
    present (trackingCode b.track), present (reasonCode b.reason), maybe (trackingZone b.track),
    maybe ((trackingCandidate b.track).map Candidate.zone), present ((trackingCandidate b.track).elim 0 Candidate.count),
    b.lastValue, present b.decimation, present b.countdown, maybe (b.latches.map Latches.high),
    maybe (b.latches.map Latches.low), bitResult b.resync, some b.seen, some b.transitions ]

/-- The latches after a clearing read: the zone of a TRACKING binding, absent in UNSETTLED and STALE (R21). -/
def clearLatches (b : Binding) : Binding :=
  { b with
    latches := match b.track with
      | .tracking z _ => some { high := z, low := z }
      | _ => none }

/-- READ_BINDING: RANGE, NO_ENTRY, else the fields as they stood, then the clearing if asked (R20, R21). -/
def readBindingRequest (operands : List Word) (s : State) : State × Reply :=
  match operands with
  | [index, clear] =>
    if !(inRange 0 255 index && inRange 0 1 clear) then refuse .range s
    else
      match s.bindings.lookup (indexOf index) with
      | none => refuse .noEntry s
      | some b =>
        (if clear = 1 then setBinding (indexOf index) (clearLatches b) s else s,
          .answer .ok (bindingResults (indexOf index) b))
  | _ => refuse .malformed s

end Sys2Proof.Machine
end

