-- ==== Sys2Proof/Machine/ProfileCommands.lean ====
section
/-! DEFINITION. The profile store (chapter 2): LOAD_PROFILE, CLEAR_PROFILE, COPY_ACTIVE, READ_PROFILE, COMMIT, and the end of
a commit sweep. -/

namespace Sys2Proof.Machine

/-! ### LOAD_PROFILE (R30 to R32) -/

/-- The thresholds of a span, with exact arithmetic: B + j × S for j in 0..k−1 (R31). -/
def spanThresholds (base step count : Word) : List Int :=
  (List.range count.toNat).map fun j => base.signed + (j : Int) * (step.toNat : Int)

/-- A threshold in the sample range. -/
def inSampleRange (t : Int) : Bool := decide (-32768 ≤ t) && decide (t ≤ 32767)

/-- Each threshold above the one before it (R31). -/
def strictlyIncreasing : List Word → Bool
  | a :: b :: rest => decide (a.signed < b.signed) && strictlyIncreasing (b :: rest)
  | _ => true

/-- A shadow slot written with a profile, answered with its threshold count (R32). -/
def storeProfile (slot : Word) (p : Profile) (s : State) : State × Reply :=
  ({ s with shadowBank := s.shadowBank.put (slotOf slot) p }, .answer .ok [present p.thresholds.length])

/-- The span form after the checks common to both forms (R31, R32). -/
def loadSpan (slot hysteresis persistence edge base step count : Word) (s : State) : State × Reply :=
  if !inRange 1 8192 step then refuse .range s
  else if !inRange 1 15 count then refuse .malformed s
  else if !(spanThresholds base step count).all inSampleRange then refuse .range s
  else
    storeProfile slot
      { thresholds := (spanThresholds base step count).map (BitVec.ofInt 16)
        hysteresis := hysteresis.toNat, persistence := persistence.toNat, edge := edgeOf edge.toNat, origin := .span } s

/-- The explicit form after the checks common to both forms (R31, R32). -/
def loadExplicit (slot hysteresis persistence edge : Word) (thresholds : List Word) (s : State) : State × Reply :=
  if !strictlyIncreasing thresholds then refuse .malformed s
  else
    storeProfile slot
      { thresholds := thresholds
        hysteresis := hysteresis.toNat, persistence := persistence.toNat, edge := edgeOf edge.toNat, origin := .explicit } s

/-- The RANGE checks common to both forms (R31 step 2). -/
def loadInRange (slot form hysteresis persistence edge : Word) : Bool :=
  inRange 0 31 slot && inRange 0 1 form && inRange 0 4095 hysteresis && inRange 1 15 persistence && inRange 0 3 edge

/-- LOAD_PROFILE (R31). -/
def loadProfileRequest (operands : List Word) (s : State) : State × Reply :=
  match operands with
  | slot :: form :: hysteresis :: persistence :: edge :: rest =>
    if s.sweep.isSome then refuse .busy s
    else if !loadInRange slot form hysteresis persistence edge then refuse .range s
    else if form = 1 then
      match rest with
      | [base, step, count] => loadSpan slot hysteresis persistence edge base step count s
      | _ => refuse .malformed s
    else
      match rest with
      | _ :: thresholds => loadExplicit slot hysteresis persistence edge thresholds s
      | [] => refuse .malformed s
  | _ => refuse .malformed s

/-! ### CLEAR_PROFILE, COPY_ACTIVE, READ_PROFILE (R33 to R35) -/

/-- CLEAR_PROFILE (R33). -/
def clearProfileRequest (operands : List Word) (s : State) : State × Reply :=
  match operands with
  | [slot] =>
    if s.sweep.isSome then refuse .busy s
    else if !inRange 0 31 slot then refuse .range s
    else ({ s with shadowBank := s.shadowBank.remove (slotOf slot) }, .answer .ok [])
  | _ => refuse .malformed s

/-- COPY_ACTIVE (R34). -/
def copyActiveRequest (operands : List Word) (s : State) : State × Reply :=
  match operands with
  | [] =>
    if s.sweep.isSome then refuse .busy s
    else ({ s with shadowBank := s.activeBank }, .answer .ok [present s.activeBank.length])
  | _ => refuse .malformed s

/-- The number of bound bindings whose profile index is a slot index (R35). -/
def profileUsers (slot : Fin 32) (s : State) : Nat := s.bindings.countP fun e => e.2.profile == slot

/-- The results of Table 2-3; for an empty slot they end after the fourth. -/
def profileResults (bank : Word) (slot : Fin 32) (users : Nat) (content : Option Profile) : List (Option Word) :=
  match content with
  | none => [some bank, present slot.val, present users, present 0]
  | some p =>
    [ some bank, present slot.val, present users, present 1, present (originCode p.origin), present (edgeCode p.edge),
      present p.hysteresis, present p.persistence, present p.thresholds.length ] ++ p.thresholds.map some

/-- READ_PROFILE (R35). -/
def readProfileRequest (operands : List Word) (s : State) : State × Reply :=
  match operands with
  | [bank, slot] =>
    if !(inRange 0 1 bank && inRange 0 31 slot) then refuse .range s
    else
      let content := if bank = 0 then s.activeBank.lookup (slotOf slot) else s.shadowBank.lookup (slotOf slot)
      (s, .answer .ok (profileResults bank (slotOf slot) (profileUsers (slotOf slot) s) content))
  | _ => refuse .malformed s

/-! ### COMMIT (R37) -/

/-- The lowest index of a bound binding whose profile slot is empty in the shadow bank (R37). -/
def commitConflict (s : State) : Option (Fin 256) :=
  (s.bindings.find? fun e => (s.shadowBank.lookup e.2.profile).isNone).map Prod.fst

/-- COMMIT: BUSY, CONFLICT with the lowest such index, else the sweep begins and the answer waits for its end (R37). -/
def commitRequest (tag : BitVec 8) (broadcast : Bool) (operands : List Word) (s : State) : State × Reply :=
  match operands with
  | [] =>
    if s.sweep.isSome then refuse .busy s
    else
      match commitConflict s with
      | some i => (s, .answer .conflict [present i.val])
      | none => ({ s with sweep := some { tag := tag, broadcast := broadcast } }, .later)
  | _ => refuse .malformed s

/-! ### The end of a commit sweep (R40 to R42) -/

/-- What the commit comparison reads of a profile: threshold list, hysteresis and persistence (R41). -/
def ladder (p : Profile) : List Word × Nat × Nat := (p.thresholds, p.hysteresis, p.persistence)

/-- Whether a binding's profile differs between the bank that was active and the bank that becomes active (R41). -/
def ladderChanged (s : State) (b : Binding) : Bool :=
  (s.activeBank.lookup b.profile).map ladder != (s.shadowBank.lookup b.profile).map ladder

/-- A binding after the sweep end (R41). -/
def resettle (s : State) (b : Binding) : Binding := if ladderChanged s b then unsettle .reprofiled b else b

/-- The resettle count: the bound bindings unsettled by the sweep end (R41). -/
def resettleCount (s : State) : Nat := s.bindings.countP fun e => ladderChanged s e.2

/-- The banks exchanged, the bindings resettled, the sweep over and its tag forgotten (R29, R40, R41). -/
def exchangeBanks (s : State) : State :=
  { s with
    activeBank := s.shadowBank
    shadowBank := s.activeBank
    sweep := none
    bindings := s.bindings.mapContents (resettle s) }

/-- The end of a commit sweep; a unicast COMMIT's response is queued and cached (R42). Without a sweep nothing ends. -/
def sweepEndStep (s : State) : State :=
  match s.sweep with
  | none => s
  | some sweep =>
    if sweep.broadcast then exchangeBanks s
    else
      respond
        { tag := sweep.tag, code := commandCode .commit, status := .ok, results := [present (resettleCount s)] }
        (exchangeBanks s)

/-- COMMIT_SWEEP_END. -/
def execCommitSweepEnd (s : State) : Host.Outcome State Fault Refusal := whenRunning sweepEndStep s

end Sys2Proof.Machine
end

