-- ==== Sys2Proof/Machine/SettingCommands.lean ====
section
/-! DEFINITION. The commands that read the node and change its settings: IDENTIFY, READ_STATUS, CLEAR_STATUS, SET_TICK,
SET_DELIVERY, CLEAR_STALL, SET_NOTICES and SET_DEFAULT (R76, R104, R128, R130, R158, R180 to R183). -/

namespace Sys2Proof.Machine

/-- IDENTIFY: the results of Table 9-3 (R180). -/
def identifyRequest (operands : List Word) (s : State) : State × Reply :=
  match operands with
  | [] =>
    (s, .answer .ok
      [ some Config.familyCode, some Config.revision, present s.address.toNat, present (modeCode s.mode),
        present Config.bindingEntries, present Config.profileSlots, present Config.maxThresholds,
        present Config.storeCapacity, present Config.recordsPerFrame, present s.tickPeriod.toNat ])
  | _ => refuse .malformed s

/-- READ_STATUS: the results of Table 9-4 (R181). -/
def readStatusRequest (operands : List Word) (s : State) : State × Reply :=
  match operands with
  | [] =>
    (s, .answer .ok
      [ present s.flags.toNat, present (reporterCode s.reporter), present s.retryCount, some s.nextSequence,
        present s.store.length, present (numberedCount s.store), present s.bindings.length, bitResult s.sweep.isSome,
        present (modeCode s.mode), present s.address.toNat ])
  | _ => refuse .malformed s

/-- CLEAR_STATUS: RANGE, else the named flags cleared, answered with the flags as they stood (R183). -/
def clearStatusRequest (operands : List Word) (s : State) : State × Reply :=
  match operands with
  | [mask] =>
    if !inRange 0 511 mask then refuse .range s
    else ({ s with flags := clearFlags s.flags (mask.setWidth 9) }, .answer .ok [present s.flags.toNat])
  | _ => refuse .malformed s

/-- SET_TICK: RANGE, else the period of the next tick period onward; the period in progress runs on (R76). -/
def setTickRequest (operands : List Word) (s : State) : State × Reply :=
  match operands with
  | [code] =>
    if !inRange 0 3 code then refuse .range s
    else ({ s with tickPeriod := code.setWidth 2 }, .answer .ok [present s.tickPeriod.toNat])
  | _ => refuse .malformed s

/-- SET_DELIVERY: RANGE, else both settings; a retry count above the new limit falls to it (R130). -/
def setDeliveryRequest (operands : List Word) (s : State) : State × Reply :=
  match operands with
  | [timeout, limit] =>
    if !(inRange 1 255 timeout && inRange 1 15 limit) then refuse .range s
    else
      ({ s with
          ackTimeout := timeout.toNat
          retryLimit := limit.toNat
          retryCount := min s.retryCount limit.toNat },
        .answer .ok [present s.ackTimeout, present s.retryLimit])
  | _ => refuse .malformed s

/-- CLEAR_STALL: a stall ended with the retry count 0; answered with the reporter state before (R128). -/
def clearStallRequest (operands : List Word) (s : State) : State × Reply :=
  match operands with
  | [] =>
    (match s.reporter with
      | .stalled => { s with reporter := .awaiting, retryCount := 0 }
      | _ => s,
      .answer .ok [present (reporterCode s.reporter)])
  | _ => refuse .malformed s

/-- SET_NOTICES: RANGE, else the mask replaced, answered with the mask before (R104). -/
def setNoticesRequest (operands : List Word) (s : State) : State × Reply :=
  match operands with
  | [mask] =>
    if !inRange 0 511 mask then refuse .range s
    else ({ s with noticeMask := mask.setWidth 9 }, .answer .ok [present s.noticeMask.toNat])
  | _ => refuse .malformed s

/-- SET_DEFAULT: RANGE for a code other than 0 and 3, else the policy replaced, answered with the one before (R158). -/
def setDefaultRequest (operands : List Word) (s : State) : State × Reply :=
  match operands with
  | [code] =>
    if code = 0 then
      ({ s with defaultPolicy := .pass }, .answer .ok [present (defaultPolicyCode s.defaultPolicy)])
    else if code = 3 then
      ({ s with defaultPolicy := .drop }, .answer .ok [present (defaultPolicyCode s.defaultPolicy)])
    else refuse .range s
  | _ => refuse .malformed s

end Sys2Proof.Machine
end

