-- ==== Sys2Proof/Machine/Agent.lean ====
section
/-! DEFINITION. The management agent (chapter 9): the tests a request meets, its execution and its answer, and the commands
that arrive as MGMT_REQ frames. -/

namespace Sys2Proof.Machine

/-- The block that a command's operands go to. -/
def runCommand (c : Command) (tag : BitVec 8) (broadcast : Bool) (operands : List Word) (s : State) : State × Reply :=
  match c with
  | .identify => identifyRequest operands s
  | .readStatus => readStatusRequest operands s
  | .clearStatus => clearStatusRequest operands s
  | .setMode => setModeRequest operands s
  | .restart => restartRequest operands s
  | .bind => bindRequest operands s
  | .unbind => unbindRequest operands s
  | .modifyBinding => modifyBindingRequest operands s
  | .readBinding => readBindingRequest operands s
  | .loadProfile => loadProfileRequest operands s
  | .clearProfile => clearProfileRequest operands s
  | .copyActive => copyActiveRequest operands s
  | .commit => commitRequest tag broadcast operands s
  | .readProfile => readProfileRequest operands s
  | .setTick => setTickRequest operands s
  | .setDelivery => setDeliveryRequest operands s
  | .clearStall => clearStallRequest operands s
  | .setNotices => setNoticesRequest operands s
  | .setDefault => setDefaultRequest operands s

/-- A request executed: UNKNOWN, MALFORMED by its operand count, or the command (R168). -/
def executeRequest (code : BitVec 8) (r : Request) (broadcast : Bool) (s : State) : State × Reply :=
  match commandOf code with
  | none => refuse .unknown s
  | some c => if operandCountFits c r.operands then runCommand c r.tag broadcast r.operands s else refuse .malformed s

/-- An executed unicast request answered: the response queued and entered in the cache, but for a COMMIT whose sweep has
begun (R168). -/
def answerRequest (code : BitVec 8) (r : Request) (result : State × Reply) : State :=
  match result.2 with
  | .answer status results => respond { tag := r.tag, code := code, status := status, results := results } result.1
  | .later => result.1

/-- Whether a request repeats the COMMIT of the running sweep (R39). -/
def repeatsCommit (code tag : BitVec 8) (s : State) : Bool :=
  code == commandCode .commit && s.sweep.any fun w => w.tag == tag

/-- The cached response of the same tag and command code (R167). -/
def cachedResponse (code tag : BitVec 8) (s : State) : Option Response :=
  s.cache.find? fun e => e.tag == tag && e.code == code

/-- The four tests of R165 for a unicast request. -/
def takeUnicast (code : BitVec 8) (r : Request) (s : State) : State :=
  if repeatsCommit code r.tag s then s
  else if Config.agentCapacity ≤ s.responses.length then raiseFlag .mgmtOverrun s
  else
    match cachedResponse code r.tag s with
    | some response => { s with responses := s.responses ++ [response] }
    | none => answerRequest code r (executeRequest code r false s)

/-- The commands executed when sent broadcast (R176). -/
def executedBroadcast (code : BitVec 8) : Bool :=
  code == commandCode .setMode || code == commandCode .restart || code == commandCode .commit

/-- A broadcast request at the agent: no response, no cache entry (R176, R177). -/
def takeBroadcast (code : BitVec 8) (r : Request) (s : State) : State :=
  if executedBroadcast code then
    if Config.agentCapacity ≤ s.responses.length then raiseFlag .mgmtOverrun s
    else (executeRequest code r true s).1
  else s

/-- A MGMT_REQ accepted on the C port (R150, R151). -/
def routeRequest (code : BitVec 8) (r : Request) (s : State) : State :=
  if s.mode = .unaddressed then placeReturn (requestAsFrame code r) s
  else if r.address = s.address then takeUnicast code r s
  else if r.address = Config.broadcastAddress then takeBroadcast code r (placeReturn (requestAsFrame code r) s)
  else placeReturn (requestAsFrame code r) s

/-- A MGMT_REQ frame of a command code received on the C port. -/
def receiveRequest (code : BitVec 8) (r : Request) (s : State) : Host.Outcome State Fault Refusal :=
  whenRunning (receiveFrame .c r.fits (routeRequest code r)) s

/-! ### The commands -/

/-- UNKNOWN_COMMAND: a request of any command code; one the part does not define is answered UNKNOWN (R168). -/
def execUnknownCommand (code : BitVec 8) (r : Request) (s : State) : Host.Outcome State Fault Refusal :=
  receiveRequest code r s

/-- IDENTIFY. -/
def execIdentify (r : Request) (s : State) : Host.Outcome State Fault Refusal := receiveRequest 1 r s

/-- READ_STATUS. -/
def execReadStatus (r : Request) (s : State) : Host.Outcome State Fault Refusal := receiveRequest 2 r s

/-- CLEAR_STATUS. -/
def execClearStatus (r : Request) (s : State) : Host.Outcome State Fault Refusal := receiveRequest 3 r s

/-- SET_MODE. -/
def execSetMode (r : Request) (s : State) : Host.Outcome State Fault Refusal := receiveRequest 4 r s

/-- RESTART. -/
def execRestart (r : Request) (s : State) : Host.Outcome State Fault Refusal := receiveRequest 5 r s

/-- BIND. -/
def execBind (r : Request) (s : State) : Host.Outcome State Fault Refusal := receiveRequest 16 r s

/-- UNBIND. -/
def execUnbind (r : Request) (s : State) : Host.Outcome State Fault Refusal := receiveRequest 17 r s

/-- MODIFY_BINDING. -/
def execModifyBinding (r : Request) (s : State) : Host.Outcome State Fault Refusal := receiveRequest 18 r s

/-- READ_BINDING. -/
def execReadBinding (r : Request) (s : State) : Host.Outcome State Fault Refusal := receiveRequest 19 r s

/-- LOAD_PROFILE. -/
def execLoadProfile (r : Request) (s : State) : Host.Outcome State Fault Refusal := receiveRequest 32 r s

/-- CLEAR_PROFILE. -/
def execClearProfile (r : Request) (s : State) : Host.Outcome State Fault Refusal := receiveRequest 33 r s

/-- COPY_ACTIVE. -/
def execCopyActive (r : Request) (s : State) : Host.Outcome State Fault Refusal := receiveRequest 34 r s

/-- COMMIT. -/
def execCommit (r : Request) (s : State) : Host.Outcome State Fault Refusal := receiveRequest 35 r s

/-- READ_PROFILE. -/
def execReadProfile (r : Request) (s : State) : Host.Outcome State Fault Refusal := receiveRequest 36 r s

/-- SET_TICK. -/
def execSetTick (r : Request) (s : State) : Host.Outcome State Fault Refusal := receiveRequest 48 r s

/-- SET_DELIVERY. -/
def execSetDelivery (r : Request) (s : State) : Host.Outcome State Fault Refusal := receiveRequest 49 r s

/-- CLEAR_STALL. -/
def execClearStall (r : Request) (s : State) : Host.Outcome State Fault Refusal := receiveRequest 50 r s

/-- SET_NOTICES. -/
def execSetNotices (r : Request) (s : State) : Host.Outcome State Fault Refusal := receiveRequest 51 r s

/-- SET_DEFAULT. -/
def execSetDefault (r : Request) (s : State) : Host.Outcome State Fault Refusal := receiveRequest 52 r s

end Sys2Proof.Machine
end

