-- ==== Sys2Proof/Machine/Classifier.lean ====
section
/-! DEFINITION. Sample classification (chapter 3): zones from thresholds, settling, tracking with hysteresis and persistence,
forwarding policies, and the rewriting of a SAMPLE frame. -/

namespace Sys2Proof.Machine

/-! ### Zones (R53, R54) -/

/-- The raw zone: the number of thresholds at or below the value (R53). -/
def rawZone (thresholds : List Word) (value : Word) : Nat :=
  thresholds.countP fun t => decide (t.signed ≤ value.signed)

/-- The shifted threshold t'[j] for a binding in a zone: lowered below the zone, raised at or above it, exactly (R54). -/
def shiftedThreshold (hysteresis zone j : Nat) (t : Word) : Int :=
  if j < zone then t.signed - hysteresis else t.signed + hysteresis

/-- The effective zone: the number of shifted thresholds at or below the value (R54). -/
def effectiveZone (thresholds : List Word) (hysteresis zone : Nat) (value : Word) : Nat :=
  thresholds.zipIdx.countP fun e => decide (shiftedThreshold hysteresis zone e.2 e.1 ≤ value.signed)

/-- The latch update with a new zone (R9). -/
def latchUpdate (zone : Nat) : Option Latches → Latches
  | none => { high := zone, low := zone }
  | some l => { high := max l.high zone, low := min l.low zone }

/-! ### Settling and tracking (R55 to R58) -/

/-- What step 2 of R51 does to a binding: the binding after it, the record it calls for where report enable and edge mode
admit it, and the pair's zone-changing mark (R63). -/
structure PairStep where
  binding : Binding
  body : Option Body
  changing : Bool
  deriving DecidableEq, Repr

/-- Settling (R55, R56): the raw zone, the latches widened, a STATE record with the binding's reason. -/
def settle (i : Fin 256) (b : Binding) (p : Profile) (value : Word) : PairStep :=
  let zone := rawZone p.thresholds value
  { binding := { b with track := .tracking zone none, latches := some (latchUpdate zone b.latches) }
    body := if b.report then some (.settled (subjectOf i b) zone (some value) b.reason) else none
    changing := true }

/-- Whether an edge mode admits a transition record (R61). -/
def edgeAdmits (e : Edge) (fromZone toZone : Nat) : Bool :=
  match e with
  | .none => false
  | .rising => fromZone < toZone
  | .falling => toZone < fromZone
  | .both => true

/-- A committed transition from a zone to the candidate zone (R58). -/
def commitTransition (i : Fin 256) (b : Binding) (p : Profile) (fromZone toZone : Nat) (value : Word) : PairStep :=
  { binding :=
      { b with
        track := .tracking toZone none
        latches := some (latchUpdate toZone b.latches)
        transitions := b.transitions + 1 }
    body :=
      if b.report && edgeAdmits p.edge fromZone toZone then some (.transition (subjectOf i b) fromZone toZone value)
      else none
    changing := true }

/-- The candidate count after a sample that qualifies for a zone other than the binding's (R57). -/
def candidateCount (zone : Nat) : Option Candidate → Nat
  | some c => if c.zone = zone then c.count + 1 else 1
  | none => 1

/-- A sample of a TRACKING binding (R57): the zone confirmed, the candidate moved, or the transition committed. -/
def trackSample (i : Fin 256) (b : Binding) (p : Profile) (zone : Nat) (candidate : Option Candidate) (value : Word) :
    PairStep :=
  let e := effectiveZone p.thresholds p.hysteresis zone value
  if e = zone then { binding := { b with track := .tracking zone none }, body := none, changing := false }
  else
    let n := candidateCount e candidate
    if n = p.persistence then commitTransition i b p zone e value
    else
      { binding := { b with track := .tracking zone (some { zone := e, count := n }) }, body := none, changing := false }

/-- Steps 1 and 2 of R51: the countdown reloaded and the sample counted (R52), then settled or tracked. -/
def sampleBinding (i : Fin 256) (b : Binding) (p : Profile) (value : Word) : PairStep :=
  let b1 := { b with countdown := b.limit, seen := b.seen + 1 }
  match b1.track with
  | .unsettled => settle i b1 p value
  | .stale _ => settle i b1 p value
  | .tracking zone candidate => trackSample i b1 p zone candidate value

/-! ### Forwarding (R64 to R66) -/

/-- Whether a pair is kept, by the binding's policy, and the decimation counter after it. -/
def forwardDecision (b : Binding) (changing : Bool) : Bool × Nat :=
  match b.policy with
  | .pass => (true, b.decimation)
  | .drop => (false, b.decimation)
  | .onChange => (changing, b.decimation)
  | .decimate => if b.decimation = 0 then (true, b.factor - 1) else (false, b.decimation - 1)

/-- Whether the default policy keeps an unbound pair (R67). -/
def defaultKeeps (d : DefaultPolicy) : Bool :=
  match d with
  | .pass => true
  | .drop => false

/-! ### A pair and a frame (R50, R51, R67) -/

/-- A record offered, if there is one. -/
def offerIfSome (body : Option Body) (s : State) : State :=
  match body with
  | some b => offerRecord b s
  | none => s

/-- One pair of a bound binding with its profile: the five steps of R51. -/
def classifyBound (i : Fin 256) (b : Binding) (p : Profile) (value : Word) (s : State) : State × Bool :=
  let r := sampleBinding i b p value
  let decision := forwardDecision r.binding r.changing
  let after := { r.binding with lastValue := some value, decimation := decision.2 }
  (offerIfSome r.body (setBinding i after s), decision.1)

/-- One pair of a frame: the state after it, and whether it is kept. A bound binding always names a profile (R3); a state
without one, which no run reaches, treats the pair as unbound (notes/assumptions/13). -/
def classifyPair (source : BitVec 6) (pair : Pair) (s : State) : State × Bool :=
  match findKey source pair.channel s with
  | none => (s, defaultKeeps s.defaultPolicy)
  | some (i, b) =>
    match s.activeBank.lookup b.profile with
    | none => (s, defaultKeeps s.defaultPolicy)
    | some p => classifyBound i b p pair.value s

/-- The pairs of a frame in frame order: the state after them, and the kept pairs in their order (R50, R68). -/
def classifyPairs (source : BitVec 6) : List Pair → State → State × List Pair
  | [], s => (s, [])
  | pair :: rest, s =>
    let first := classifyPair source pair s
    let others := classifyPairs source rest first.1
    (others.1, if first.2 then pair :: others.2 else others.2)

/-- A SAMPLE frame taken by the classifier (R48): its pairs classified, then the rewritten frame handed to the forward
queue as the last act, if any pair was kept (R68 to R70). -/
def classifyFrame (f : SampleFrame) (s : State) : State :=
  let r := classifyPairs f.source f.pairs s
  if r.2.isEmpty then r.1 else placeForward (sampleAsFrame { f with pairs := r.2 }) r.1

/-- A SAMPLE frame accepted on the S port: classified in FILTERING, forwarded unchanged in the other modes (R49, R149). -/
def routeSample (f : SampleFrame) (s : State) : State :=
  match s.mode with
  | .filtering => classifyFrame f s
  | _ => placeForward (sampleAsFrame f) s

end Sys2Proof.Machine
end

