-- ==== Sys2Proof/Machine/Delivery.lean ====
section
/-! DEFINITION. The delivery engine's acknowledgements and resync pass, and the commands of the transmitters: grants, starts
and completions (chapters 5 to 8). -/

namespace Sys2Proof.Machine

/-! ### The resync pass (R101, R102, R107) -/

/-- One owed notice taken: its mark cleared, and the NOTICE record appended if the flag is still set and enabled (R107). -/
def insertOwed (s : State) (f : Flag) : State :=
  if hasFlag s.owedNotices f then
    let s1 := { s with owedNotices := withoutFlag s.owedNotices f }
    if hasFlag s.flags f && hasFlag s.noticeMask f then appendRecord (.notice f) s1 else s1
  else s

/-- The record that restates a binding, where it needs one (R102). -/
def resyncBody (i : Fin 256) (b : Binding) : Option Body :=
  if b.report then
    match b.track with
    | .tracking zone _ => some (.settled (subjectOf i b) zone b.lastValue .resync)
    | .stale zone => some (.stale (subjectOf i b) zone)
    | .unsettled => none
  else none

/-- The resync pass at one entry, while the occupancy is below 64 (R101, R102). -/
def resyncEntry (s : State) (i : Fin 256) : State :=
  match s.bindings.lookup i with
  | none => s
  | some b =>
    if s.store.length < Config.storeCapacity && b.resync then
      let s1 := setBinding i { b with resync := false } s
      match resyncBody i b with
      | some body => appendRecord body s1
      | none => s1
    else s

/-- The resync pass: the owed notices in ascending flag code, then the bound entries in ascending index (R101). -/
def resyncPass (s : State) : State :=
  let s1 := allFlags.foldl insertOwed s
  (s1.bindings.map Prod.fst).foldl resyncEntry s1

/-! ### Acknowledgement (R119 to R122) -/

/-- The sequence number of the oldest numbered record, or the next sequence number where no record is numbered (R119). -/
def oldestSequence (s : State) : BitVec 16 := (s.store.findSome? recordSequence).getD s.nextSequence

/-- The distance of an expected sequence number (R119). -/
def ackDistance (expected : BitVec 16) (s : State) : Nat := (expected - oldestSequence s).toNat

/-- Steps 1 to 3 of a valid ACK: the d oldest numbered records removed, the retry count 0, and the reporter and the timer
by what remains (R108, R121). -/
def removeAcknowledged (d : Nat) (s : State) : State :=
  let store := s.store.drop d
  if numberedCount store = 0 then
    { s with store := store, retryCount := 0, reporter := .idle, ackTimer := none }
  else
    { s with store := store, retryCount := 0, reporter := .awaiting, ackTimer := some s.ackTimeout }

/-- A valid ACK, with the resync pass where it leaves 48 records or fewer (R101, R121). -/
def acknowledge (d : Nat) (s : State) : State :=
  let s1 := removeAcknowledged d s
  if s1.store.length ≤ Config.resyncOccupancy then resyncPass s1 else s1

/-- An ACK dispatched to the delivery engine (R119, R120, R122). -/
def takeAck (payload : List Word) (s : State) : State :=
  match payload with
  | [expected] =>
    let d := ackDistance expected s
    if d = 0 then s
    else if d ≤ numberedCount s.store then acknowledge d s
    else raiseFlag .ackFault s
  | _ => raiseFlag .ackFault s

/-- An ACK frame accepted on the C port: consumed where it is addressed to the node, else passed on (R150). -/
def routeAck (address : BitVec 6) (extension : BitVec 15) (payload : List Word) (s : State) : State :=
  if s.mode ≠ .unaddressed ∧ address = s.address then takeAck payload s
  else placeReturn { kind := kindAck, address := address, extension := extension, payload := payload } s

/-- ACK. -/
def execAck (address : BitVec 6) (extension : BitVec 15) (payload : List Word) (s : State) :
    Host.Outcome State Fault Refusal :=
  whenRunning (receiveFrame .c (decide (payload.length ≤ Config.maxPayload)) (routeAck address extension payload)) s

/-! ### Grants and transmissions (R117, R144, R156, R159) -/

/-- C_PORT_GRANT: the scheduler's happening taken by itself, where a grant is due. The happenings that make one due include it,
so that in a run none is due here (notes/assumptions/6). -/
def execCPortGrant (s : State) : Host.Outcome State Fault Refusal := whenRunning grantStep s

/-- The start of an S transmission taken by itself, where one is due (R156). The happenings that make it due include it, so
that in a run none is due here (notes/assumptions/6). -/
def sTransmitStep (s : State) : State := startSTransmission s

/-- S_PORT_TRANSMIT_START. -/
def execSPortTransmitStart (s : State) : Host.Outcome State Fault Refusal := whenRunning sTransmitStep s

/-- The completion of an EVENT frame of the part: the timer starts in AWAITING where it is stopped (R117). -/
def eventCompleted (s : State) : State :=
  match s.reporter, s.ackTimer with
  | .awaiting, none => { s with ackTimer := some s.ackTimeout }
  | _, _ => s

/-- The completion of a transmission returns the transmitter to idle (R144); that of the S port then takes the oldest frame
that waits (R156, R157). -/
def completeStep (port : Port) (s : State) : State :=
  match port with
  | .s =>
    match s.sTransmission with
    | some _ => startSTransmission { s with sTransmission := none }
    | none => s
  | .c =>
    match s.cTransmission with
    | some (.event _ _) => eventCompleted { s with cTransmission := none }
    | _ => { s with cTransmission := none }

/-- TRANSMISSION_COMPLETE. -/
def execTransmissionComplete (port : Port) (s : State) : Host.Outcome State Fault Refusal :=
  whenRunning (completeStep port) s

end Sys2Proof.Machine
end

