-- ==== Sys2Proof/Machine/Links.lean ====
section
/-! DEFINITION. Power-on and the link happenings that carry no frame (R140 to R143, R190). -/

namespace Sys2Proof.Machine

/-- POWER_ON: every block at its power-on state, held there until the inputs let the part run (R190). -/
def execPowerOn (pins : Pins) (s : State) : Host.Outcome State Fault Refusal := .next (State.powerOn pins s.pending)

/-- Whether a port's receiver is inside a frame (R137, R141). -/
def isAssembling : Link → Bool
  | .down => false
  | .acquiring _ _ assembling => assembling
  | .up _ assembling => assembling

/-- A SYNC marker outside a frame (R140, R141): it moves DOWN to ACQUIRING, begins a clean interval, or ends one, the fourth
bringing the port UP. -/
def syncOutsideStep (port : Port) (s : State) : State :=
  match linkOf port s with
  | .down => setLink port (.acquiring 0 true false) s
  | .acquiring n false _ => setLink port (.acquiring n true false) s
  | .acquiring n true _ =>
    if n + 1 < Config.cleanIntervals then setLink port (.acquiring (n + 1) true false) s else linkUp port s
  | .up _ _ => s

/-- Whether a framing error is a SYNC marker. -/
def errorIsSync : FramingError → Bool
  | .syncInside => true
  | _ => false

/-- Whether a framing error is a START, which opens a new frame (R137, R141). -/
def errorIsStart : FramingError → Bool
  | .startInside => true
  | _ => false

/-- Whether a framing error lies inside a frame, which it ends (R137, R141). -/
def errorInside : FramingError → Bool
  | .violationOutside => false
  | .endOutside => false
  | .abortOutside => false
  | _ => true

/-- Whether the line word is an END or an ABORT, which a receiver inside a frame takes as that frame's end (R137, R141). -/
def errorEndsFrame : FramingError → Bool
  | .endOutside => true
  | .abortOutside => true
  | _ => false

/-- The START that arrived opens a new frame, while the port is not DOWN (R137, R141). -/
def openFrame (port : Port) (s : State) : State :=
  match linkOf port s with
  | .down => s
  | .acquiring n opened _ => setLink port (.acquiring n opened true) s
  | .up faults _ => setLink port (.up faults true) s

/-- A framing error (R140 to R142). ACQUIRING: the interval count becomes 0, and the next SYNC, or the SYNC that is itself
the error, begins a new interval; an END or ABORT that finds the receiver inside a frame ends that frame and is no error.
DOWN: only a SYNC moves the port. UP: inside a frame it makes that frame faulty, and a START opens a new one. -/
def framingErrorStep (port : Port) (e : FramingError) (s : State) : State :=
  match linkOf port s with
  | .down => if errorIsSync e then setLink port (.acquiring 0 true false) s else s
  | .acquiring n opened assembling =>
    if assembling && errorEndsFrame e then setLink port (.acquiring n opened false) s
    else setLink port (.acquiring 0 (errorIsSync e) (errorIsStart e)) s
  | .up _ assembling =>
    if assembling || errorInside e then
      if errorIsStart e then openFrame port (faultyReception port s) else faultyReception port s
    else s

/-- A SYNC marker (R140, R141, R137): a framing error where the receiver is inside a frame. -/
def syncStep (port : Port) (s : State) : State :=
  if isAssembling (linkOf port s) then framingErrorStep port .syncInside s
  else syncOutsideStep port s

/-- SYNC_RECEIVED. -/
def execSyncReceived (port : Port) (s : State) : Host.Outcome State Fault Refusal := whenRunning (syncStep port) s

/-- FRAMING_ERROR. -/
def execFramingError (port : Port) (e : FramingError) (s : State) : Host.Outcome State Fault Refusal :=
  whenRunning (framingErrorStep port e) s

/-- 512 line word times without a SYNC (R141, R142): ACQUIRING goes DOWN without more; UP goes DOWN as R143 gives. -/
def silenceTimeoutStep (port : Port) (s : State) : State :=
  match linkOf port s with
  | .down => s
  | .acquiring _ _ _ => setLink port .down s
  | .up _ _ => linkDown port s

/-- LINK_SILENCE_TIMEOUT. -/
def execLinkSilenceTimeout (port : Port) (s : State) : Host.Outcome State Fault Refusal :=
  whenRunning (silenceTimeoutStep port) s

end Sys2Proof.Machine
end

