-- ==== Sys2Proof/Machine/TimeBase.lean ====
section
/-! DEFINITION. The time base, the silence watch and the acknowledgement timer (chapter 4; R124 to R126). -/

namespace Sys2Proof.Machine

/-! ### Silence (R80, R82, R83) -/

/-- The fields a silence expiry leaves (R82). -/
def expiredBinding (b : Binding) : Binding :=
  { b with track := .stale (trackingZone b.track), reason := .fresh, countdown := 0 }

/-- A silence expiry of a binding: STALE, and with report enable on a STALE record offered (R82, R83). -/
def expireBinding (i : Fin 256) (b : Binding) (s : State) : State :=
  let s1 := setBinding i (expiredBinding b) s
  if b.report then offerRecord (.stale (subjectOf i b) (trackingZone b.track)) s1 else s1

/-- Whether the decrement pass counts a binding down: a silence limit above 0, and not STALE (R80). -/
def countsDown (b : Binding) : Bool :=
  b.limit != 0 && match b.track with
    | .stale _ => false
    | _ => true

/-- The decrement pass at one entry; a countdown that reaches 0 expires within the pass (R80). -/
def decrementEntry (s : State) (i : Fin 256) : State :=
  match s.bindings.lookup i with
  | none => s
  | some b =>
    if countsDown b then
      if b.countdown ≤ 1 then expireBinding i b s else setBinding i { b with countdown := b.countdown - 1 } s
    else s

/-- The decrement pass over the bound entries in ascending index (R80). -/
def decrementPass (s : State) : State := (s.bindings.map Prod.fst).foldl decrementEntry s

/-! ### The acknowledgement timer (R124 to R126) -/

/-- An expiry: every SENT record becomes RESEND, the timer stops, and a retry is counted, or the reporter stalls when the
retry count is at the limit (R125, R126). -/
def expireAckTimer (s : State) : State :=
  let s1 := { s with store := s.store.map sentToResend, ackTimer := none }
  if s.retryCount < s.retryLimit then { s1 with retryCount := s.retryCount + 1 } else { s1 with reporter := .stalled }

/-- The delivery engine's happening at a tick (R124). -/
def engineTick (s : State) : State :=
  match s.ackTimer with
  | none => s
  | some n => if n ≤ 1 then expireAckTimer s else { s with ackTimer := some (n - 1) }

/-! ### The tick (R74, R75, R77) -/

/-- The time base at the end of a tick period: the count incremented, and the next period begun at the period in force. -/
def advanceTime (s : State) : State :=
  { s with tickCount := s.tickCount + 1, periodInProgress := s.tickPeriod }

/-- A tick: the count, then in FILTERING the decrement pass, then the delivery engine's own happening (R75, R81, R124). -/
def tickStep (s : State) : State :=
  let s1 := advanceTime s
  engineTick (match s1.mode with
    | .filtering => decrementPass s1
    | _ => s1)

/-! ### The commands -/

/-- TICK. -/
def execTick (s : State) : Host.Outcome State Fault Refusal := whenRunning tickStep s

/-- The silence expiry of one binding taken by itself: the entry's own step of a decrement pass, where it brings the
countdown to 0. Where no expiry is due, none happens (R13, R80, R81; notes/assumptions/4). -/
def silenceExpiryStep (i : Fin 256) (s : State) : State :=
  match s.mode, s.bindings.lookup i with
  | .filtering, some b => if countsDown b && decide (b.countdown ≤ 1) then expireBinding i b s else s
  | _, _ => s

/-- SILENCE_EXPIRY. -/
def execSilenceExpiry (i : Fin 256) (s : State) : Host.Outcome State Fault Refusal := whenRunning (silenceExpiryStep i) s

/-- The timer's last decrement and its expiry taken by themselves; a timer that is stopped, or has more than one tick
remaining, does not expire (R124; notes/assumptions/5). -/
def ackTimerExpiryStep (s : State) : State :=
  match s.ackTimer with
  | some n => if n ≤ 1 then expireAckTimer s else s
  | none => s

/-- ACK_TIMER_EXPIRY. -/
def execAckTimerExpiry (s : State) : Host.Outcome State Fault Refusal := whenRunning ackTimerExpiryStep s

end Sys2Proof.Machine
end

