-- ==== Sys2Proof/Machine/Router.lean ====
section
/-! DEFINITION. The frame router (R149, R150): the block that takes a received frame, for frames given by their content or by
their line words. -/

namespace Sys2Proof.Machine

/-- The dispatch of a frame accepted on the S port (Table 8-1): a SAMPLE frame as R49 gives by the
mode, every other kind to the forward queue unchanged. -/
def dispatchFromS (f : Frame) (s : State) : State :=
  if f.kind = kindSample then
    match readSample f with
    | some sf => routeSample sf s
    | none => placeForward f s
  else placeForward f s

/-- The dispatch of a frame accepted on the C port (Table 8-2). -/
def dispatchFromC (f : Frame) (s : State) : State :=
  if f.kind = kindAck then routeAck f.address f.extension f.payload s
  else if f.kind = kindRequest then
    match readRequest f with
    | some (code, r) => routeRequest code r s
    | none => placeReturn f s
  else if f.kind = kindEnum then routeEnum f.address f.extension f.payload s
  else if f.kind = kindReset then routeReset f.address f.extension f.payload s
  else placeReturn f s

/-- The frame router's one decision (R149, R150). -/
def dispatchFrame (port : Port) (f : Frame) (s : State) : State :=
  match port with
  | .s => dispatchFromS f s
  | .c => dispatchFromC f s

/-- SAMPLE: a SAMPLE frame received on the S port (R138, R149). -/
def execSample (f : SampleFrame) (s : State) : Host.Outcome State Fault Refusal :=
  whenRunning (receiveFrame .s (sampleInRange f) (routeSample f)) s

/-- FORWARD_UNCHANGED: a frame received on a port; one that no block consumes joins the queue toward the opposite port
unchanged, and one that a block takes goes to that block (R149, R150; notes/assumptions/17). -/
def execForwardUnchanged (port : Port) (f : Frame) (s : State) : Host.Outcome State Fault Refusal :=
  whenRunning (receiveFrame port (frameAccepted port f) (dispatchFrame port f)) s

/-- The framing error that an early end of a reception is (R137, R141); an ABORT inside a frame is none. -/
def closingError : Closing → Option FramingError
  | .endMarker => none
  | .abortMarker => none
  | .startMarker => some .startInside
  | .syncMarker => some .syncInside
  | .idleMarker => some .idleInside
  | .codeViolation => some .violationInside

/-- A reception that carries no frame (R137): an early end that is a framing error acts as one, which on an UP port makes
the frame faulty; any other is a faulty frame (R139, R141, R142). -/
def rejectReception (port : Port) (r : Reception) (s : State) : State :=
  match closingError r.closing with
  | some e => framingErrorStep port e s
  | none => faultyReception port s

/-- A reception judged by its line words (R137 to R139). -/
def receiveWords (port : Port) (r : Reception) (s : State) : State :=
  match readReception r with
  | none => rejectReception port r s
  | some f => receiveFrame port (frameAccepted port f) (dispatchFrame port f) s

/-- FAULTY_FRAME: a reception that fails the receive checks is discarded and counted; one that passes them after all is a
frame like any other (R137 to R139; notes/assumptions/17). -/
def execFaultyFrame (port : Port) (r : Reception) (s : State) : Host.Outcome State Fault Refusal :=
  whenRunning (receiveWords port r) s

end Sys2Proof.Machine
end

