-- ==== Sys2Proof/Machine/Dispatch.lean ====
section
/-! DEFINITION. Each command to its meaning. -/

namespace Sys2Proof.Machine

def exec (i : Instr) (s : State) : Host.Outcome State Fault Refusal :=
  match i with
  | .powerOn pins => Sys2Proof.Machine.execPowerOn pins s
  | .syncReceived port => Sys2Proof.Machine.execSyncReceived port s
  | .framingError port error => Sys2Proof.Machine.execFramingError port error s
  | .linkSilenceTimeout port => Sys2Proof.Machine.execLinkSilenceTimeout port s
  | .faultyFrame port reception => Sys2Proof.Machine.execFaultyFrame port reception s
  | .sample frame => Sys2Proof.Machine.execSample frame s
  | .forwardUnchanged port frame => Sys2Proof.Machine.execForwardUnchanged port frame s
  | .ack address extension payload => Sys2Proof.Machine.execAck address extension payload s
  | .enum address extension payload => Sys2Proof.Machine.execEnum address extension payload s
  | .chainReset address extension payload => Sys2Proof.Machine.execChainReset address extension payload s
  | .tick => Sys2Proof.Machine.execTick s
  | .silenceExpiry index => Sys2Proof.Machine.execSilenceExpiry index s
  | .ackTimerExpiry => Sys2Proof.Machine.execAckTimerExpiry s
  | .cPortGrant => Sys2Proof.Machine.execCPortGrant s
  | .sPortTransmitStart => Sys2Proof.Machine.execSPortTransmitStart s
  | .transmissionComplete port => Sys2Proof.Machine.execTransmissionComplete port s
  | .commitSweepEnd => Sys2Proof.Machine.execCommitSweepEnd s
  | .unknownCommand code request => Sys2Proof.Machine.execUnknownCommand code request s
  | .identify request => Sys2Proof.Machine.execIdentify request s
  | .readStatus request => Sys2Proof.Machine.execReadStatus request s
  | .clearStatus request => Sys2Proof.Machine.execClearStatus request s
  | .setMode request => Sys2Proof.Machine.execSetMode request s
  | .restart request => Sys2Proof.Machine.execRestart request s
  | .bind request => Sys2Proof.Machine.execBind request s
  | .unbind request => Sys2Proof.Machine.execUnbind request s
  | .modifyBinding request => Sys2Proof.Machine.execModifyBinding request s
  | .readBinding request => Sys2Proof.Machine.execReadBinding request s
  | .loadProfile request => Sys2Proof.Machine.execLoadProfile request s
  | .clearProfile request => Sys2Proof.Machine.execClearProfile request s
  | .copyActive request => Sys2Proof.Machine.execCopyActive request s
  | .commit request => Sys2Proof.Machine.execCommit request s
  | .readProfile request => Sys2Proof.Machine.execReadProfile request s
  | .setTick request => Sys2Proof.Machine.execSetTick request s
  | .setDelivery request => Sys2Proof.Machine.execSetDelivery request s
  | .clearStall request => Sys2Proof.Machine.execClearStall request s
  | .setNotices request => Sys2Proof.Machine.execSetNotices request s
  | .setDefault request => Sys2Proof.Machine.execSetDefault request s

end Sys2Proof.Machine
end

