-- ==== Sys2Proof/Safety.lean ====
section
/-! DEFINITION. What a sound state of the part is, in the terms the claims use: the laws that the manual says every happening
keeps, each a decidable property of one state, and the conditions under which a request is executed. -/

namespace Sys2Proof.Safety

open Sys2Proof.Machine

/-! ### Node control and the held part -/

/-- The node address is 0 exactly when the mode is UNADDRESSED, and it is never the broadcast address (R186). -/
abbrev AddressLaw (s : State) : Prop :=
  (s.address = 0 ↔ s.mode = .unaddressed) ∧ s.address ≠ Config.broadcastAddress

/-- While the inputs do not let the part run, every block is at its power-on state (R190). -/
abbrev HeldLaw (s : State) : Prop := s.pins ≠ runningPins → s = State.powerOn s.pins s.pending

/-! ### Capacities -/

/-- No store or queue exceeds its capacity, and the consecutive-forward count stays in 0..3 (R88, R154, R159, R169). -/
abbrev CapacityLaw (s : State) : Prop :=
  s.store.length ≤ 64 ∧ s.forwardQueue.length ≤ 8 ∧ s.returnQueue.length ≤ 8 ∧ s.responses.length ≤ 4
    ∧ s.cache.length ≤ 4 ∧ s.forwardCount ≤ 3

/-- At most one entry of any tag stands in the response cache (R169). -/
abbrev CacheLaw (s : State) : Prop := (s.cache.map Response.tag).Pairwise (· ≠ ·)

/-! ### Ports -/

/-- The counts of a link state lie below the value that leaves the state (R141, R142). -/
def linkBounded : Link → Bool
  | .down => true
  | .acquiring n _ _ => n < 4
  | .up n _ => n < 16

/-- Whether a link is UP. -/
def isUp : Link → Bool
  | .up _ _ => true
  | _ => false

/-- Nothing to send: no response, no frame for the C port, and the delivery engine not ready (R159). -/
abbrev NothingToSend (s : State) : Prop := s.responses = [] ∧ s.forwardQueue = [] ∧ deliveryReady s = false

/-- Link counts in bounds, a transmission in progress only on an UP port (R144, R146), no frame waiting in the return queue
while the S port is UP with its transmitter idle (R156), and nothing to send while the C port is UP with its transmitter idle
(R159). -/
abbrev PortLaw (s : State) : Prop :=
  linkBounded s.sLink ∧ linkBounded s.cLink ∧ (s.sTransmission.isSome → isUp s.sLink)
    ∧ (s.cTransmission.isSome → isUp s.cLink) ∧ (isUp s.sLink → s.sTransmission = none → s.returnQueue = [])
    ∧ (isUp s.cLink → s.cTransmission = none → NothingToSend s)

/-! ### Delivery -/

/-- The sequence numbers of the store, oldest first. -/
def storeSequences (s : State) : List (BitVec 16) := s.store.filterMap recordSequence

/-- The `m` sequence numbers that end at next − 1. -/
def sequencesBefore (next : BitVec 16) (m : Nat) : List (BitVec 16) :=
  (List.range m).map fun k => next - BitVec.ofNat 16 m + BitVec.ofNat 16 k

/-- Numbered records stand before unnumbered ones, with consecutive sequence numbers ending at next − 1 (R92). -/
abbrev NumberingLaw (s : State) : Prop :=
  (s.store.Pairwise fun a b => (recordSequence b).isSome → (recordSequence a).isSome)
    ∧ storeSequences s = sequencesBefore s.nextSequence (numberedCount s.store)

/-- The reporter is IDLE exactly when no record is numbered (R112). -/
abbrev ReporterLaw (s : State) : Prop := s.reporter = .idle ↔ numberedCount s.store = 0

/-- A running timer has 1..255 ticks remaining and runs in AWAITING alone (R111, R112). -/
abbrev TimerLaw (s : State) : Prop :=
  ∀ n ∈ s.ackTimer, s.reporter = .awaiting ∧ 1 ≤ n ∧ n ≤ 255

/-- The settings lie in their ranges, and the retry count never exceeds the retry limit (R111, R125). -/
abbrev RetryLaw (s : State) : Prop :=
  1 ≤ s.ackTimeout ∧ s.ackTimeout ≤ 255 ∧ 1 ≤ s.retryLimit ∧ s.retryLimit ≤ 15 ∧ s.retryCount ≤ s.retryLimit

/-- The laws of the delivery engine together. -/
abbrev DeliveryLaw (s : State) : Prop := NumberingLaw s ∧ ReporterLaw s ∧ TimerLaw s ∧ RetryLaw s

/-! ### Bindings and profiles -/

/-- Entries in strictly ascending index, no two bindings with the same key (R1, R2). -/
abbrev KeyLaw (s : State) : Prop :=
  s.bindings.wf ∧ s.bindings.Pairwise fun e f => ¬ (e.2.source = f.2.source ∧ e.2.channel = f.2.channel)

/-- A profile is well formed: 1 to 15 strictly increasing thresholds, hysteresis 0..4095, persistence 1..15 (R24). -/
abbrev ProfileSound (p : Profile) : Prop :=
  1 ≤ p.thresholds.length ∧ p.thresholds.length ≤ 15 ∧ p.thresholds.Pairwise (fun a b => a.signed < b.signed)
    ∧ p.hysteresis ≤ 4095 ∧ 1 ≤ p.persistence ∧ p.persistence ≤ 15

/-- Every profile of both banks is well formed, and the banks are in canonical form (R24, R28). -/
abbrev BankLaw (s : State) : Prop :=
  s.activeBank.wf ∧ s.shadowBank.wf ∧ (∀ e ∈ s.activeBank, ProfileSound e.2) ∧ ∀ e ∈ s.shadowBank, ProfileSound e.2

/-- A TRACKING binding's zone is at most its profile's threshold count; a candidate differs from the zone, and its count
is at least 1 and less than the persistence (R6, R57). -/
def tracksWithin (b : Binding) (p : Profile) : Bool :=
  match b.track with
  | .tracking zone candidate =>
    zone ≤ p.thresholds.length
      && candidate.all fun c => c.zone != zone && c.zone ≤ p.thresholds.length && 1 ≤ c.count && c.count < p.persistence
  | _ => true

/-- Every bound binding names a non-empty slot of the active bank (R3), tracks within its profile (R6), and during a
commit sweep names a non-empty slot of the shadow bank too (R40). -/
abbrev ProfileLaw (s : State) : Prop :=
  ∀ e ∈ s.bindings,
    (s.activeBank.lookup e.2.profile).any (tracksWithin e.2)
      ∧ (s.sweep.isSome → (s.shadowBank.lookup e.2.profile).isSome)

/-- The values of a bound entry's own fields (R2, R4, R7, R9, R79): a source address 1..62, the decimation counter within
its factor, the countdown within its limit and above 0 while it counts, the low latch at most the high one. -/
abbrev BindingSound (b : Binding) : Prop :=
  b.source ≠ 0 ∧ b.source ≠ 63 ∧ 1 ≤ b.factor ∧ b.factor ≤ 255 ∧ b.decimation < b.factor ∧ b.limit ≤ 65535
    ∧ b.countdown ≤ b.limit ∧ (countsDown b → 1 ≤ b.countdown) ∧ (∀ l ∈ b.latches, l.low ≤ l.high) ∧ b.reason ≠ .resync

/-- Every bound entry's own fields are sound. -/
abbrev EntryLaw (s : State) : Prop := ∀ e ∈ s.bindings, BindingSound e.2

/-! ### Requests -/

/-- The command that a request of a defined command code is. -/
def requestCommand (c : Command) (r : Request) : Instr :=
  match c with
  | .identify => .identify r
  | .readStatus => .readStatus r
  | .clearStatus => .clearStatus r
  | .setMode => .setMode r
  | .restart => .restart r
  | .bind => .bind r
  | .unbind => .unbind r
  | .modifyBinding => .modifyBinding r
  | .readBinding => .readBinding r
  | .loadProfile => .loadProfile r
  | .clearProfile => .clearProfile r
  | .copyActive => .copyActive r
  | .commit => .commit r
  | .readProfile => .readProfile r
  | .setTick => .setTick r
  | .setDelivery => .setDelivery r
  | .clearStall => .clearStall r
  | .setNotices => .setNotices r
  | .setDefault => .setDefault r

/-- A port of a running part that is UP, where a frame is received (R137, R190). -/
abbrev Receives (port : Port) (s : State) : Prop := s.pins = runningPins ∧ isUp (linkOf port s)

/-- A request received on the C port that fits a frame (R133). -/
abbrev Arrives (r : Request) (s : State) : Prop := Receives .c s ∧ r.operands.length < 64

/-- A request received on the C port and addressed to the node, which is addressed (R150). -/
abbrev ReachesAgent (r : Request) (s : State) : Prop :=
  Arrives r s ∧ s.mode ≠ .unaddressed ∧ r.address = s.address

/-- A unicast request that reaches test 4 of R165: it repeats no COMMIT of a running sweep, the response queue has room,
and the cache holds no entry of its tag and command code. -/
abbrev Executes (code : BitVec 8) (r : Request) (s : State) : Prop :=
  ReachesAgent r s ∧ repeatsCommit code r.tag s = false ∧ s.responses.length < 4
    ∧ cachedResponse code r.tag s = none

/-- The state after a request was accepted, executed without another effect, and answered: the C port's fault count is 0,
the response stands at the back of the queue, and its entry is made in the cache (R138, R168, R169). -/
def answered (code tag : BitVec 8) (status : Status) (results : List (Option Word)) (s : State) : State :=
  { s with
    cLink := .up 0 false
    responses := s.responses ++ [{ tag := tag, code := code, status := status, results := results }]
    cache := cacheWith { tag := tag, code := code, status := status, results := results } s.cache }

/-! ### What a lost link leaves -/

/-- A record after the abort of the C port's transmission: SENT becomes RESEND where the aborted frame is an EVENT frame
of the part that carries it (R118). -/
def afterAbort (transmission : Option CTransmission) (r : Record) : Record :=
  match transmission, r.delivery with
  | some (.event _ sequences), .sent n => if n ∈ sequences then { r with delivery := .resend n } else r
  | _, _ => r

/-- The state after an UP port went DOWN (R143, R146, R118): its LINK_LOSS flag set, its transmission aborted, the queues
it serves emptied, its counts gone. -/
def afterLinkLoss (port : Port) (s : State) : State :=
  match port with
  | .s => { raiseFlag .linkLossS s with sLink := .down, sTransmission := none, returnQueue := [] }
  | .c =>
    { raiseFlag .linkLossC s with
      cLink := .down
      cTransmission := none
      store := (raiseFlag .linkLossC s).store.map (afterAbort s.cTransmission)
      forwardQueue := []
      responses := [] }

/-! ### What a frame passed on leaves -/

/-- The state after a frame was handed to the forward queue (R154, R155): at its back, or lost with FWD_LOSS_C at a full one. -/
def forwarded (f : Frame) (s : State) : State :=
  if s.forwardQueue.length < 8 then { s with forwardQueue := s.forwardQueue ++ [f] } else raiseFlag .fwdLossC s

/-- The state after a frame was handed to the return queue (R155, R156): lost with FWD_LOSS_S at a full one, else behind the
frames that wait, the oldest of which an UP S port whose transmitter is idle takes at once. -/
def passedOn (f : Frame) (s : State) : State :=
  if 8 ≤ s.returnQueue.length then raiseFlag .fwdLossS s
  else if isUp s.sLink ∧ s.sTransmission = none then
    match s.returnQueue with
    | [] => { s with sTransmission := some f }
    | oldest :: rest => { s with sTransmission := some oldest, returnQueue := rest ++ [f] }
  else { s with returnQueue := s.returnQueue ++ [f] }

/-! ### What a node restart leaves -/

/-- The ABORTED response that a node restart queues: of a unicast COMMIT whose sweep it abandons (R46, R194). -/
def abortedCommit (s : State) : List Response :=
  match s.sweep with
  | some w => if w.broadcast then [] else [{ tag := w.tag, code := 35, status := .aborted, results := [] }]
  | none => []

/-- The state after steps 1 to 4 of a node restart whose response queue has room (R194, R23, R46, R110, R131, R163, R185): an
EVENT frame in transmission on the C port aborted, the part's own or one it forwards; the flags, the cache, the store and
the owed marks emptied, the bindings reset, the engine IDLE, the sweep abandoned. All else is kept. -/
def afterRestart (s : State) : State :=
  { s with
    cTransmission := match s.cTransmission with
      | some (.event _ _) => none
      | some (.forwarded f) => if f.kind = 2 then none else some (.forwarded f)
      | other => other
    bindings := s.bindings.map fun e =>
      (e.1, { e.2 with
        track := .unsettled, reason := .restarted, lastValue := none, decimation := 0, countdown := e.2.limit
        latches := none, resync := false, seen := 0, transitions := 0 })
    sweep := none, store := [], owedNotices := 0, reporter := .idle, ackTimer := none, retryCount := 0
    forwardCount := 0, flags := 0, cache := []
    responses := s.responses ++ abortedCommit s }

/-- A reception that the receive checks reject (R137, R138). -/
def rejected (port : Port) (r : Reception) : Bool :=
  match readReception r with
  | none => true
  | some f => !frameAccepted port f

/-! ### What a sample leaves -/

/-- Whether a forwarding policy keeps a pair, by its zone-changing mark and the decimation counter (R64 to R66). -/
def policyKeeps (b : Binding) (changing : Bool) : Bool :=
  match b.policy with
  | .pass => true
  | .decimate => b.decimation == 0
  | .onChange => changing
  | .drop => false

/-- The decimation counter after a pair: the position within the group of factor pairs under DECIMATE, held under every
other policy (R4, R64 to R66). -/
def decimationAfter (b : Binding) : Nat :=
  match b.policy with
  | .decimate => if b.decimation = 0 then b.factor - 1 else b.decimation - 1
  | _ => b.decimation

/-- The fields that every classified pair of a binding writes, whatever it does to the zone (R52, R63, R65). -/
def sampled (b : Binding) (value : Word) : Binding :=
  { b with
    countdown := b.limit
    seen := b.seen + 1
    lastValue := some value
    decimation := decimationAfter b }

/-- The latches widened by a zone (R9). -/
def widened (zone : Nat) (l : Option Latches) : Latches :=
  match l with
  | none => { high := zone, low := zone }
  | some l => { high := max l.high zone, low := min l.low zone }

/-- A new record at the end of a store that has room (R60, R94). -/
def withRecord (body : Body) (s : State) : List Record :=
  s.store ++ [{ body := body, delivery := .unsent, mergeCount := 1, timestamp := s.tickCount }]

/-- The state after a record was offered: appended while the store has room, else merged or failed by the rules of a full
store (R94, R96, R98). -/
def recorded (body : Body) (s : State) : State :=
  if s.store.length < 64 then { s with store := withRecord body s } else offerRecord body s

end Sys2Proof.Safety
end

