-- ==== Sys2Proof/Certificates/Slice0/Obligations.lean ====
section
/-! DEFINITION. The statements for the provers.

A command of a running part ends with the grant of the C transmitter that it makes due (R159; notes/assumptions/6): `grantStep` of
the state that the command's own effect leaves, which is that state itself where none is due. What a statement says of a
command is said of its own effect; `Obligations.GrantOrder` and `Obligations.GrantAssemblesEventFrame` say what the grant does. -/

open Sys2Proof Sys2Proof.Machine Sys2Proof.Safety

/-! ### The queue, power and the held part -/

/-- A step takes the command at the front of the queue and is that command's exec on the state with the queue's rest; on
an empty queue the part idles (the idling is the model's choice, notes/assumptions/1). -/
def Obligations.StepTakesFrontCommand : Prop :=
  (∀ (c : Instr) (rest : List Instr) (s : State),
    step { s with pending := c :: rest } = exec c { s with pending := rest })
  ∧ ∀ s : State, s.pending = [] → step s = .next s

/-- No command reads or changes the queue of waiting commands: with another queue the same command does the same to
everything else and leaves that queue (the queue is the model's, notes/assumptions/1). -/
def Obligations.ExecLeavesQueueAlone : Prop :=
  ∀ (c : Instr) (s t : State) (q : List Instr), exec c s = .next t →
    t.pending = s.pending ∧ exec c { s with pending := q } = .next { t with pending := q }

/-- Every command answers a next state: the part has no fault, and no command is refused. -/
def Obligations.EveryCommandAnswersNext : Prop :=
  ∀ (c : Instr) (s : State), ∃ t, exec c s = .next t

/-- §10.3: a power-on leaves every block at its power-on state, with the inputs at the levels given. -/
def Obligations.PowerOnLeavesPowerOnState : Prop :=
  ∀ (pins : Pins) (s : State), exec (.powerOn pins) s = .next
    { pins := pins, address := 0, mode := .unaddressed
      bindings := [], activeBank := [], shadowBank := [], sweep := none
      tickCount := 0, tickPeriod := 1, periodInProgress := 1
      store := [], noticeMask := 0, owedNotices := 0
      nextSequence := 0, reporter := .idle, ackTimer := none, retryCount := 0, ackTimeout := 40, retryLimit := 4
      sLink := .down, sTransmission := none, cLink := .down, cTransmission := none
      forwardQueue := [], returnQueue := [], forwardCount := 0, defaultPolicy := .pass
      responses := [], cache := [], flags := 0, pending := s.pending }

/-- §10.3: while power rises or RSTN is low, the part accepts no frame, makes no tick and changes nothing. That a stopped clock
holds it too, and that no command but POWER_ON is taken, is the model's reading (notes/assumptions/8). -/
def Obligations.HeldPartTakesNothing : Prop :=
  ∀ (c : Instr) (s : State), s.pins ≠ runningPins → (∀ p, c ≠ .powerOn p) → exec c s = .next s

/-! ### Links -/

/-- §7.6, §7.5: a DOWN port enters ACQUIRING at a SYNC, with an interval count of 0 and that SYNC beginning the first interval,
also where the SYNC closes a reception. It accepts no frame, and every other happening of its receiver leaves the state as it
was; for a silence timeout, which cannot occur on a DOWN port, that is the model's (notes/assumptions/7). -/
def Obligations.DownPortWaitsForSync : Prop :=
  ∀ (port : Port) (s : State), s.pins = runningPins → linkOf port s = .down →
    let acquiring := setLink port (.acquiring 0 true false) s
    exec (.syncReceived port) s = .next (grantStep acquiring)
    ∧ exec (.framingError port .syncInside) s = .next (grantStep acquiring)
    ∧ (∀ ws, exec (.faultyFrame port { words := ws, closing := .syncMarker }) s = .next (grantStep acquiring))
    ∧ (∀ e, e ≠ .syncInside → exec (.framingError port e) s = .next (grantStep s))
    ∧ (∀ r : Reception, r.closing ≠ .syncMarker → exec (.faultyFrame port r) s = .next (grantStep s))
    ∧ (∀ f : Frame, exec (.forwardUnchanged port f) s = .next (grantStep s))
    ∧ (port = .s → ∀ f, exec (.sample f) s = .next (grantStep s))
    ∧ (port = .c →
        (∀ a x ws, exec (.ack a x ws) s = .next (grantStep s) ∧ exec (.enum a x ws) s = .next (grantStep s)
          ∧ exec (.chainReset a x ws) s = .next (grantStep s))
        ∧ (∀ code r, exec (.unknownCommand code r) s = .next (grantStep s))
        ∧ ∀ c r, exec (requestCommand c r) s = .next (grantStep s))
    ∧ exec (.linkSilenceTimeout port) s = .next (grantStep s)

/-- §7.6, §8.3: in ACQUIRING, each SYNC that ends an interval without a framing error counts it; the fourth brings the port UP with
its fault count at 0, and an S port that comes UP begins to send the oldest frame that waits. A framing error sets the count
to 0 and the next SYNC begins a new interval, or the SYNC that is itself the error does; so does one that ends a reception
early (a START, SYNC, IDLE or code violation), where an END or ABORT keeps the count. 512 line word times without a SYNC
take the port DOWN. No frame of any kind is accepted. The model's are: that the state holds only that a frame is open
(notes/assumptions/2), so that a START that is the error opens one and a SYNC finds it open, and that an END or ABORT given as
one outside a frame ends the frame that is open and keeps the count (notes/assumptions/19). -/
def Obligations.AcquiringPortCountsCleanIntervals : Prop :=
  ∀ (port : Port) (s : State), s.pins = runningPins →
    (∀ n, n < 3 → linkOf port s = .acquiring n true false →
      exec (.syncReceived port) s = .next (grantStep (setLink port (.acquiring (n + 1) true false) s)))
    ∧ (linkOf port s = .acquiring 3 true false →
        (port = .c ∨ s.sTransmission ≠ none ∨ s.returnQueue = [] →
          exec (.syncReceived port) s = .next (grantStep (setLink port (.up 0 false) s)))
        ∧ ∀ f rest, port = .s → s.sTransmission = none → s.returnQueue = f :: rest →
            exec (.syncReceived port) s =
              .next (grantStep { s with sLink := .up 0 false, sTransmission := some f, returnQueue := rest }))
    ∧ (∀ n, linkOf port s = .acquiring n false false →
        exec (.syncReceived port) s = .next (grantStep (setLink port (.acquiring n true false) s)))
    ∧ (∀ n o, linkOf port s = .acquiring n o true →
        exec (.syncReceived port) s = .next (grantStep (setLink port (.acquiring 0 true false) s))
        ∧ ∀ e, e ∈ [FramingError.endOutside, .abortOutside] →
            exec (.framingError port e) s = .next (grantStep (setLink port (.acquiring n o false) s)))
    ∧ ∀ n o a, linkOf port s = .acquiring n o a →
        (∀ e, (a = false ∨ e ∉ [FramingError.endOutside, .abortOutside]) →
          exec (.framingError port e) s =
            .next (grantStep (setLink port (.acquiring 0 (decide (e = .syncInside)) (decide (e = .startInside))) s)))
        ∧ exec (.linkSilenceTimeout port) s = .next (grantStep (setLink port .down s))
        ∧ (∀ r : Reception, exec (.faultyFrame port r) s =
            .next (grantStep (setLink port
              (if r.closing = .endMarker ∨ r.closing = .abortMarker then .acquiring n o false
                else .acquiring 0 (decide (r.closing = .syncMarker)) (decide (r.closing = .startMarker))) s)))
        ∧ let unaccepted := Host.Outcome.next (grantStep (setLink port (.acquiring n o false) s))
          (∀ f, exec (.forwardUnchanged port f) s = unaccepted)
          ∧ (port = .s → ∀ f, exec (.sample f) s = unaccepted)
          ∧ (port = .c →
              (∀ address x ws, exec (.ack address x ws) s = unaccepted ∧ exec (.enum address x ws) s = unaccepted
                ∧ exec (.chainReset address x ws) s = unaccepted)
              ∧ (∀ code r, exec (.unknownCommand code r) s = unaccepted)
              ∧ ∀ c r, exec (requestCommand c r) s = unaccepted)

/-- §7.5, §7.6: on an UP port a faulty frame is discarded, sets the port's RX_FAULT flag and is counted; the sixteenth in a row
takes the link DOWN within the happening. A framing error inside a frame, a SYNC among them, makes that frame faulty, and a
START opens a new one; outside a frame, like a SYNC, it changes nothing. The model's are the open frame itself
(notes/assumptions/2), and that an END, ABORT or code violation given as one outside a frame makes the frame that is open faulty
(notes/assumptions/19). -/
def Obligations.FaultyFrameIsCounted : Prop :=
  ∀ (port : Port) (s : State) (n : Nat) (a : Bool), s.pins = runningPins → linkOf port s = .up n a →
    let flagged := raiseFlag (if port = .s then .rxFaultS else .rxFaultC) s
    (∀ r, rejected port r = true →
      (n < 15 → exec (.faultyFrame port r) s =
        .next (grantStep (setLink port (.up (n + 1) (decide (r.closing = .startMarker))) flagged)))
      ∧ (n = 15 → exec (.faultyFrame port r) s = .next (grantStep (afterLinkLoss port flagged))))
    ∧ (∀ e, (a = true ∨ e ∈ [FramingError.violationInside, .startInside, .syncInside, .idleInside]) →
        (n < 15 → exec (.framingError port e) s =
          .next (grantStep (setLink port (.up (n + 1) (decide (e = .startInside))) flagged)))
        ∧ (n = 15 → exec (.framingError port e) s = .next (grantStep (afterLinkLoss port flagged))))
    ∧ (a = false →
        (∀ e, e ∈ [FramingError.violationOutside, .endOutside, .abortOutside] →
            exec (.framingError port e) s = .next (grantStep s))
        ∧ exec (.syncReceived port) s = .next (grantStep s))
    ∧ (a = true →
        (n < 15 → exec (.syncReceived port) s = .next (grantStep (setLink port (.up (n + 1) false) flagged)))
        ∧ (n = 15 → exec (.syncReceived port) s = .next (grantStep (afterLinkLoss port flagged))))

/-- §7.6: 512 line word times without a SYNC take an UP port DOWN, with the effects of R143. -/
def Obligations.LinkSilenceTakesPortDown : Prop :=
  ∀ (port : Port) (s : State) (n : Nat) (a : Bool), s.pins = runningPins → linkOf port s = .up n a →
    exec (.linkSilenceTimeout port) s = .next (grantStep (afterLinkLoss port s))

/-- R137: what makes a reception faulty before its kind is looked at, and what an unfaulty one carries. -/
def Obligations.ReceptionChecks : Prop :=
  ∀ r : Reception,
    (r.closing ≠ .endMarker → readReception r = none)
    ∧ (r.words.length < 3 → readReception r = none)
    ∧ (67 < r.words.length → readReception r = none)
    ∧ ∀ (h0 h1 : Word) (payload : List Word) (check : Word), r.words = h0 :: h1 :: (payload ++ [check]) →
        (64 < codedLength h0 h1 → readReception r = none)
        ∧ (payload.length ≠ codedLength h0 h1 → readReception r = none)
        ∧ (crc (h0 :: h1 :: payload) ≠ check → readReception r = none)
        ∧ (r.closing = .endMarker → codedLength h0 h1 ≤ 64 → payload.length = codedLength h0 h1 →
            crc (h0 :: h1 :: payload) = check →
            readReception r = some
              { kind := h0.extractLsb' 12 4, address := h0.extractLsb' 6 6
                extension := h1.extractLsb' 1 15, payload := payload })

/-! ### Flags and forwarding -/

/-- §5.5: setting a status flag. One already set changes nothing; one that goes from clear to set offers its NOTICE record
if its bit of the mask is on: appended while the store has room, owed at a full store. -/
def Obligations.FlagSettingOffersNotice : Prop :=
  ∀ (f : Flag) (s : State),
    (hasFlag s.flags f = true → raiseFlag f s = s)
    ∧ (hasFlag s.flags f = false →
        (hasFlag s.noticeMask f = false → raiseFlag f s = { s with flags := s.flags ||| 1#9 <<< flagCode f })
        ∧ (hasFlag s.noticeMask f = true → s.store.length < 64 →
            raiseFlag f s = { s with flags := s.flags ||| 1#9 <<< flagCode f, store := withRecord (.notice f) s })
        ∧ (hasFlag s.noticeMask f = true → 64 ≤ s.store.length →
            raiseFlag f s =
              { s with
                flags := s.flags ||| 1#9 <<< flagCode f
                owedNotices := s.owedNotices ||| 1#9 <<< flagCode f }))

/-- §8.1 to §8.3: an accepted frame of a kind that no block takes joins the queue toward the opposite port as it came; at a
full queue it is lost, the queue is kept and the FWD_LOSS flag is set. Toward the S port, an idle transmitter
of an UP port takes the oldest frame at once, the new one where no other waits; else the frame waits behind the others. -/
def Obligations.FrameJoinsOppositeQueue : Prop :=
  (∀ (f : Frame) (s : State), Receives .s s → frameAccepted .s f = true → f.kind ≠ 1 →
    (s.forwardQueue.length < 8 →
      exec (.forwardUnchanged .s f) s = .next (grantStep { s with sLink := .up 0 false, forwardQueue := s.forwardQueue ++ [f] }))
    ∧ (8 ≤ s.forwardQueue.length →
      exec (.forwardUnchanged .s f) s = .next (grantStep (raiseFlag .fwdLossC { s with sLink := .up 0 false }))))
  ∧ ∀ (f : Frame) (s : State), Receives .c s → frameAccepted .c f = true → f.kind ∉ [8, 9, 10, 11] →
    (isUp s.sLink → s.sTransmission = none → s.returnQueue = [] →
      exec (.forwardUnchanged .c f) s = .next (grantStep { s with cLink := .up 0 false, sTransmission := some f }))
    ∧ (∀ oldest rest, isUp s.sLink → s.sTransmission = none → s.returnQueue = oldest :: rest → s.returnQueue.length < 8 →
      exec (.forwardUnchanged .c f) s =
        .next (grantStep { s with cLink := .up 0 false, sTransmission := some oldest, returnQueue := rest ++ [f] }))
    ∧ (¬ isUp s.sLink ∨ s.sTransmission ≠ none → s.returnQueue.length < 8 →
      exec (.forwardUnchanged .c f) s = .next (grantStep { s with cLink := .up 0 false, returnQueue := s.returnQueue ++ [f] }))
    ∧ (8 ≤ s.returnQueue.length →
      exec (.forwardUnchanged .c f) s = .next (grantStep (raiseFlag .fwdLossS { s with cLink := .up 0 false })))

/-! ### Sample classification -/

/-- §3.1, §3.7: outside FILTERING a SAMPLE frame is forwarded unchanged and touches nothing else; in FILTERING a pair whose
key has no binding is kept under the default policy PASS and removed under DROP, and changes no binding and no record. A full
forward queue loses the frame with FWD_LOSS_C. -/
def Obligations.UnclassifiedSamples : Prop :=
  ∀ (f : SampleFrame) (s : State), Receives .s s → sampleInRange f = true →
    (s.mode ≠ .filtering →
      exec (.sample f) s = .next (grantStep (forwarded (sampleAsFrame f) { s with sLink := .up 0 false })))
    ∧ (s.mode = .filtering → (∀ p ∈ f.pairs, findKey f.source p.channel s = none) →
        (s.defaultPolicy = .pass →
          exec (.sample f) s = .next (grantStep (forwarded (sampleAsFrame f) { s with sLink := .up 0 false })))
        ∧ (s.defaultPolicy = .drop → exec (.sample f) s = .next (grantStep { s with sLink := .up 0 false })))

/-- §3.4: a pair that finds its binding UNSETTLED or STALE settles it to the raw zone of its value, widens the latches, and
with report enable on offers a STATE record with the binding's reason, which a full store fails; the pair is zone-changing.
The frame that carries it is handed to the forward queue after the record, and a full queue loses it with FWD_LOSS_C. -/
def Obligations.SampleSettlesBinding : Prop :=
  ∀ (f : SampleFrame) (pair : Pair) (i : Fin 256) (b : Binding) (p : Profile) (s : State),
    Receives .s s → s.mode = .filtering → sampleInRange f = true → f.pairs = [pair] →
    findKey f.source pair.channel s = some (i, b) → s.activeBank.lookup b.profile = some p →
    trackingCode b.track ≠ 1 →
    let zone := (p.thresholds.filter fun t => t.signed ≤ pair.value.signed).length
    let settled : State :=
      { s with
        sLink := .up 0 false
        bindings := s.bindings.put i
          { sampled b pair.value with
            track := .tracking zone none
            latches := some (widened zone b.latches) } }
    let reported :=
      if b.report then
        recorded (.settled { index := i, source := b.source, channel := b.channel } zone (some pair.value) b.reason) settled
      else settled
    exec (.sample f) s = .next (grantStep (if policyKeeps b true then forwarded (sampleAsFrame f) reported else reported))

/-- §3.5, §3.6: a pair that finds its binding TRACKING confirms the zone, moves the candidate, or commits the transition when
the candidate count reaches the persistence; the record is governed by report enable and edge mode, and a full store merges
or fails it; the pair's place in the frame is governed by the policy. The frame that carries it is handed to the forward queue
after the record, and a full queue loses it with FWD_LOSS_C. -/
def Obligations.SampleTracksBinding : Prop :=
  ∀ (f : SampleFrame) (pair : Pair) (i : Fin 256) (b : Binding) (p : Profile) (zone : Nat) (candidate : Option Candidate)
    (s : State),
    Receives .s s → s.mode = .filtering → sampleInRange f = true → f.pairs = [pair] →
    findKey f.source pair.channel s = some (i, b) → s.activeBank.lookup b.profile = some p →
    b.track = .tracking zone candidate →
    let e := effectiveZone p.thresholds p.hysteresis zone pair.value
    let count := if candidate.map Candidate.zone = some e then (candidate.elim 0 Candidate.count) + 1 else 1
    let becomes := fun (b' : Binding) => { s with sLink := .up 0 false, bindings := s.bindings.put i b' }
    let kept := fun (changing : Bool) (t : State) =>
      if policyKeeps b changing then forwarded (sampleAsFrame f) t else t
    (e = zone →
      exec (.sample f) s = .next (grantStep (kept false (becomes { sampled b pair.value with track := .tracking zone none }))))
    ∧ (e ≠ zone → count ≠ p.persistence →
      exec (.sample f) s =
        .next (grantStep (kept false
          (becomes { sampled b pair.value with track := .tracking zone (some { zone := e, count := count }) }))))
    ∧ (e ≠ zone → count = p.persistence →
      let moved := becomes
        { sampled b pair.value with
          track := .tracking e none
          latches := some (widened e b.latches)
          transitions := b.transitions + 1 }
      exec (.sample f) s =
        .next (grantStep (kept true
          (if b.report = true ∧ (p.edge = .both ∨ (p.edge = .rising ∧ zone < e) ∨ (p.edge = .falling ∧ e < zone)) then
            recorded (.transition { index := i, source := b.source, channel := b.channel } zone e pair.value) moved
          else moved))))

/-- §3.8, §3.1, §3.9, §8.5: whatever a SAMPLE frame on an UP S port does while no grant can follow it, it adds at most one frame to
the forward queue, and that frame is the received one with a non-empty subsequence of its pairs in their order, header and
source frame sequence kept. A frame of several pairs is its pairs in order: its first pairs as a frame of their own, then
the others as one, with the pairs that the two keep in one rewritten frame. At a full forward queue the records and bindings
are those it would leave with room, and then the rewritten frame, if any, is lost with FWD_LOSS_C. At an idle transmitter of an
UP C port the frame does what it does while the transmitter is busy, and then the grant that it makes due is made. -/
def Obligations.RewrittenFrameIsSubsequence : Prop :=
  ∀ (f : SampleFrame) (s : State), Receives .s s → sampleInRange f = true →
    let rewritten := fun (kept : List Pair) => if kept = [] then [] else [sampleAsFrame { f with pairs := kept }]
    ((¬ isUp s.cLink ∨ s.cTransmission ≠ none) →
      (∀ t, exec (.sample f) s = .next t →
        t.forwardQueue = s.forwardQueue
        ∨ ∃ kept : List Pair, kept ≠ [] ∧ kept.Sublist f.pairs
            ∧ t.forwardQueue = s.forwardQueue ++ [sampleAsFrame { f with pairs := kept }])
      ∧ (∀ first others t u, s.mode = .filtering → s.forwardQueue.length < 8 → f.pairs = first ++ others →
          first ≠ [] → others ≠ [] → exec (.sample { f with pairs := first }) s = .next t →
          exec (.sample { f with pairs := others }) { t with forwardQueue := s.forwardQueue } = .next u →
          ∃ kept more : List Pair, kept.Sublist first ∧ more.Sublist others
            ∧ t.forwardQueue = s.forwardQueue ++ rewritten kept ∧ u.forwardQueue = s.forwardQueue ++ rewritten more
            ∧ exec (.sample f) s = .next { u with forwardQueue := s.forwardQueue ++ rewritten (kept ++ more) })
      ∧ ∀ t, 8 ≤ s.forwardQueue.length → exec (.sample f) { s with forwardQueue := [] } = .next t →
          exec (.sample f) s =
            .next (if t.forwardQueue = [] then { t with forwardQueue := s.forwardQueue }
              else raiseFlag .fwdLossC { t with forwardQueue := s.forwardQueue }))
    ∧ (isUp s.cLink → s.cTransmission = none → ∀ inProgress u,
        exec (.sample f) { s with cTransmission := some inProgress } = .next u →
        exec (.sample f) s = .next (grantStep { u with cTransmission := none }))

/-- §3.1: the frame of a classified SAMPLE frame. Before the grant that it makes due, only the bindings, the store, the owed marks,
the flags, the forward queue and the S port's fault count may change; no entry is bound or freed, no static field changes,
bindings of another source keep every field, and no numbered record changes. -/
def Obligations.SampleFrameLeavesTheRest : Prop :=
  ∀ (f : SampleFrame) (s : State), KeyLaw s → Receives .s s → sampleInRange f = true →
    ∃ t : State, exec (.sample f) s = .next (grantStep t)
      ∧ t = { s with
              sLink := .up 0 false, bindings := t.bindings, store := t.store, owedNotices := t.owedNotices, flags := t.flags
              forwardQueue := t.forwardQueue }
      ∧ t.bindings.map Prod.fst = s.bindings.map Prod.fst
      ∧ (∀ i b, s.bindings.lookup i = some b → ∃ b', t.bindings.lookup i = some b'
          ∧ b'.source = b.source ∧ b'.channel = b.channel ∧ b'.profile = b.profile ∧ b'.policy = b.policy
          ∧ b'.factor = b.factor ∧ b'.report = b.report ∧ b'.limit = b.limit ∧ b'.reason = b.reason
          ∧ (b.source ≠ f.source → b' = b))
      ∧ (t.store.filter fun r => (recordSequence r).isSome) = s.store.filter fun r => (recordSequence r).isSome

/-- R53, R54: for a well-formed profile, the thresholds a value passes are the first ones, shifted or not; the raw zone is
their number unshifted. The shifted list is strictly increasing, and a value keeps a zone exactly within the zone's
band widened by the hysteresis on each side. -/
def Obligations.ZonesFromThresholds : Prop :=
  ∀ (p : Profile) (value : Word), ProfileSound p →
    rawZone p.thresholds value ≤ p.thresholds.length
    ∧ (∀ j (h : j < p.thresholds.length),
        ((p.thresholds[j]).signed ≤ value.signed ↔ j < rawZone p.thresholds value))
    ∧ ∀ zone, zone ≤ p.thresholds.length →
        (∀ j k (hj : j < p.thresholds.length) (hk : k < p.thresholds.length), j < k →
          shiftedThreshold p.hysteresis zone j p.thresholds[j] < shiftedThreshold p.hysteresis zone k p.thresholds[k])
        ∧ effectiveZone p.thresholds p.hysteresis zone value ≤ p.thresholds.length
        ∧ (∀ j (h : j < p.thresholds.length),
            ((if j < zone then (p.thresholds[j]).signed - p.hysteresis else (p.thresholds[j]).signed + p.hysteresis)
                ≤ value.signed
              ↔ j < effectiveZone p.thresholds p.hysteresis zone value))
        ∧ (effectiveZone p.thresholds p.hysteresis zone value = zone ↔
            (∀ h : 0 < zone ∧ zone - 1 < p.thresholds.length,
              (p.thresholds[zone - 1]'h.2).signed - p.hysteresis ≤ value.signed)
            ∧ ∀ h : zone < p.thresholds.length, value.signed < (p.thresholds[zone]).signed + p.hysteresis)

/-! ### The event store -/

/-- R97: a transition offered to a full store merges into the binding's newest UNSENT record, where that is a transition
record and the binding's resync pending mark is clear: from-zone and place kept, to-zone, value and timestamp taken, merge
count incremented and saturating at 255; its kind is UP, DOWN or RETURN by its new zones. -/
def Obligations.FullStoreMergesTransition : Prop :=
  ∀ (s : State) (older newer : List Record) (target : Record) (subject own : Subject) (a z fromZone toZone : Nat)
    (v value : Word) (b : Binding),
    64 ≤ s.store.length → s.store = older ++ target :: newer → target.delivery = .unsent →
    target.body = .transition own a z v → own.index = subject.index →
    (∀ r ∈ newer, ¬ (r.delivery = .unsent ∧ ∃ u, bodySubject r.body = some u ∧ u.index = subject.index)) →
    s.bindings.lookup subject.index = some b → b.resync = false →
    offerRecord (.transition subject fromZone toZone value) s =
      { s with
        store := older ++
          { body := .transition own a toZone value
            delivery := .unsent
            mergeCount := min 255 (target.mergeCount + 1)
            timestamp := s.tickCount } :: newer }
    ∧ bodyKindCode (.transition own a toZone value) = if a < toZone then 0 else if toZone < a then 1 else 2

/-- R98, R96: a STATE or STALE record offered to a full store, and a transition record with no merge target, is a failed
insertion: the binding's resync pending mark and EVENT_LOSS are set, and no record is stored. A transition has no merge target
where the binding's resync pending mark is set, where the store holds no UNSENT record of the binding, or where the newest of
them is a STATE or STALE record. -/
def Obligations.FullStoreFailsInsertion : Prop :=
  ∀ (s : State) (subject : Subject) (b : Binding), 64 ≤ s.store.length → s.bindings.lookup subject.index = some b →
    let failed :=
      raiseFlag .eventLoss { s with bindings := s.bindings.put subject.index { b with resync := true } }
    let unsentOfIt := fun (r : Record) =>
      r.delivery = .unsent ∧ ∃ u, bodySubject r.body = some u ∧ u.index = subject.index
    (∀ zone value reason, offerRecord (.settled subject zone value reason) s = failed)
    ∧ (∀ zone, offerRecord (.stale subject zone) s = failed)
    ∧ (∀ fromZone toZone value, b.resync = true → offerRecord (.transition subject fromZone toZone value) s = failed)
    ∧ (∀ fromZone toZone value, (∀ r ∈ s.store, ¬ unsentOfIt r) →
        offerRecord (.transition subject fromZone toZone value) s = failed)
    ∧ ∀ fromZone toZone value older newest newer, s.store = older ++ newest :: newer → unsentOfIt newest →
        (∀ r ∈ newer, ¬ unsentOfIt r) →
        ((∃ own zone v reason, newest.body = .settled own zone v reason) ∨ ∃ own zone, newest.body = .stale own zone) →
        offerRecord (.transition subject fromZone toZone value) s = failed

/-! ### Acknowledgement and delivery -/

/-- §6.4: an ACK whose expected number acknowledges the d oldest numbered records removes them, sets the retry count to 0,
and leaves the reporter AWAITING with the timer restarted, or IDLE with it stopped; every other record and the rest of
the state stand, where the resync pass has nothing to do or does not run. -/
def Obligations.AckRemovesAcknowledged : Prop :=
  ∀ (ext : BitVec 15) (d : Nat) (s : State), Receives .c s → s.mode ≠ .unaddressed → NumberingLaw s →
    s.store.length ≤ 64 → 1 ≤ d → d ≤ numberedCount s.store →
    (48 < s.store.length - d ∨ (s.owedNotices = 0 ∧ ∀ e ∈ s.bindings, e.2.resync = false)) →
    exec (.ack s.address ext [s.nextSequence - BitVec.ofNat 16 (numberedCount s.store) + BitVec.ofNat 16 d]) s =
      .next (grantStep { s with
        cLink := .up 0 false
        store := s.store.drop d
        retryCount := 0
        reporter := if d < numberedCount s.store then .awaiting else .idle
        ackTimer := if d < numberedCount s.store then some s.ackTimeout else none })

/-- §6.4, §8.1: an ACK with d = 0 changes nothing; one outside the numbers awaiting acknowledgement, or with a payload of
other than one word, only sets ACK_FAULT; one that is not addressed to the node passes on toward the sources. -/
def Obligations.OtherAcksChangeNoRecord : Prop :=
  ∀ (address : BitVec 6) (ext : BitVec 15) (payload : List Word) (s : State), Receives .c s → payload.length ≤ 64 →
    (s.mode ≠ .unaddressed → address = s.address →
      (payload.length ≠ 1 →
        exec (.ack address ext payload) s = .next (grantStep (raiseFlag .ackFault { s with cLink := .up 0 false })))
      ∧ ∀ e, payload = [e] → NumberingLaw s → s.store.length ≤ 64 →
          let first := s.nextSequence - BitVec.ofNat 16 (numberedCount s.store)
          (e = first → exec (.ack address ext payload) s = .next (grantStep { s with cLink := .up 0 false }))
          ∧ (numberedCount s.store < (e - first).toNat →
              exec (.ack address ext payload) s = .next (grantStep (raiseFlag .ackFault { s with cLink := .up 0 false }))))
    ∧ ((s.mode = .unaddressed ∨ address ≠ s.address) →
        exec (.ack address ext payload) s =
          .next (grantStep (passedOn { kind := 8, address := address, extension := ext, payload := payload }
            { s with cLink := .up 0 false })))

/-- §5.4, §5.5, §6.4: an ACK that leaves 48 records or fewer inserts the owed notices still due in ascending flag code, all owed marks
then clear, and restates the marked bindings in ascending index: each that the pass reaches loses its mark, with a record
where it is TRACKING or STALE with report enable on. When the occupancy reaches 64 the pass stops, and every binding it has
not reached keeps its mark. The removal itself is that of every valid ACK, and nothing else changes. -/
def Obligations.ResyncPassRestates : Prop :=
  ∀ (ext : BitVec 15) (d : Nat) (s : State), Receives .c s → s.mode ≠ .unaddressed → NumberingLaw s → KeyLaw s →
    s.store.length ≤ 64 → 1 ≤ d → d ≤ numberedCount s.store → s.store.length - d ≤ 48 →
    let created := fun (body : Body) =>
      ({ body := body, delivery := .unsent, mergeCount := 1, timestamp := s.tickCount } : Record)
    let noticed := s.store.drop d
      ++ (allFlags.filter fun f => hasFlag s.owedNotices f && hasFlag s.flags f && hasFlag s.noticeMask f).map
          fun f => created (.notice f)
    let room := 64 - noticed.length
    let marked := s.bindings.filter fun e => e.2.resync
    let restated := fun (entries : Table 256 Binding) => entries.filterMap fun e =>
      let subject : Subject := { index := e.1, source := e.2.source, channel := e.2.channel }
      if e.2.report then
        match e.2.track with
        | .tracking zone _ => some (created (.settled subject zone e.2.lastValue .resync))
        | .stale zone => some (created (.stale subject zone))
        | .unsettled => none
      else none
    exec (.ack s.address ext [s.nextSequence - BitVec.ofNat 16 (numberedCount s.store) + BitVec.ofNat 16 d]) s =
      .next (grantStep { s with
        cLink := .up 0 false
        store := noticed ++ (restated marked).take room
        bindings := s.bindings.map fun e =>
          (e.1, { e.2 with
            resync := e.2.resync && decide (room ≤ (restated (marked.filter fun m => m.1 < e.1)).length) })
        owedNotices := 0
        retryCount := 0
        reporter := if d < numberedCount s.store then .awaiting else .idle
        ackTimer := if d < numberedCount s.store then some s.ackTimeout else none })

/-- §8.5, §6.2: at a grant the response queue wins, then delivery if it is ready and three forwarded frames came before it, then
the forward queue, then delivery; the consecutive-forward count follows. Delivery is ready when the node is addressed, the
reporter is not STALLED and the store holds a RESEND or UNSENT record. Every happening that makes a grant due includes it:
no command of a running part leaves the C port UP and idle with something to send. That the grant closes the whole of a
command, that it may also be given as a command of its own, and that where none is due (nothing to send, the port not UP,
its transmitter busy) this one changes nothing, is the model's (notes/assumptions/6 and 7). -/
def Obligations.GrantOrder : Prop :=
  let ready := fun (s : State) => s.mode ≠ .unaddressed ∧ s.reporter ≠ .stalled
    ∧ ∃ r ∈ s.store, r.delivery = .unsent ∨ ∃ n, r.delivery = .resend n
  (∀ s : State, s.pins = runningPins → exec .cPortGrant s = .next (grantStep s))
  ∧ (∀ s : State, (¬ isUp s.cLink ∨ s.cTransmission ≠ none) → grantStep s = s)
  ∧ (∀ s : State, isUp s.cLink → s.cTransmission = none →
      (∀ r rest, s.responses = r :: rest →
        grantStep s =
          { s with responses := rest, cTransmission := some (.response (responseFrame s.address r)), forwardCount := 0 })
      ∧ (∀ f rest, s.responses = [] → s.forwardQueue = f :: rest → (¬ ready s ∨ s.forwardCount ≠ 3) →
        grantStep s =
          { s with
            forwardQueue := rest, cTransmission := some (.forwarded f), forwardCount := min 3 (s.forwardCount + 1) })
      ∧ (s.responses = [] → ready s → (s.forwardCount = 3 ∨ s.forwardQueue = []) →
        (∃ frame sequences, (grantStep s).cTransmission = some (.event frame sequences))
          ∧ (grantStep s).forwardCount = 0 ∧ (grantStep s).forwardQueue = s.forwardQueue)
      ∧ (s.responses = [] → s.forwardQueue = [] → ¬ ready s → grantStep s = s))
  ∧ ∀ (c : Instr) (s t : State), s.pins = runningPins → exec c s = .next t → isUp t.cLink → t.cTransmission = none →
      t.responses = [] ∧ t.forwardQueue = [] ∧ ¬ ready t

/-- §6.2: a grant to delivery assembles an EVENT frame of the RESEND records, oldest first, and, in the places they leave, the
UNSENT ones, oldest first, up to 8. Each record taken stands SENT at its own place in the store, with the number it has or, where
it has none, the next sequence number; the others stand as they were. The reporter leaves IDLE, the consecutive-forward count
is 0 and nothing else changes, the timer among it. The grant is given here as a command of its own, in states where one is
due, which no run reaches: that is the model's (notes/assumptions/6), and GrantOrder says that it is the grant that closes
every other command. -/
def Obligations.GrantAssemblesEventFrame : Prop :=
  ∀ s : State, Receives .c s → s.cTransmission = none → s.responses = [] →
    (s.forwardQueue = [] ∨ s.forwardCount = 3) → s.mode ≠ .unaddressed → s.reporter ≠ .stalled →
    (∃ r ∈ s.store, r.delivery = .unsent ∨ ∃ n, r.delivery = .resend n) → NumberingLaw s →
    let isUnsent := fun (r : Record) => decide (r.delivery = .unsent)
    let count := fun (p : Record → Bool) (rs : List Record) => (rs.filter p).length
    let places := 8 - count isResend s.store
    let resends := (s.store.filter isResend).take 8
    let unsents := (s.store.filter isUnsent).take places
    let taken := resends.map (fun r => { r with delivery := .sent ((recordSequence r).getD 0) })
      ++ unsents.zipIdx.map fun e => { e.1 with delivery := .sent (s.nextSequence + BitVec.ofNat 16 e.2) }
    exec .cPortGrant s =
      .next { s with
        store := s.store.mapIdx fun k r =>
          match r.delivery with
          | .sent _ => r
          | .resend n => if count isResend (s.store.take k) < 8 then { r with delivery := .sent n } else r
          | .unsent =>
            let place := count isUnsent (s.store.take k)
            if place < places then { r with delivery := .sent (s.nextSequence + BitVec.ofNat 16 place) } else r
        nextSequence := s.nextSequence + BitVec.ofNat 16 unsents.length
        reporter := if s.reporter = .idle then .awaiting else s.reporter
        cTransmission := some (.event (eventFrame s.address taken) (taken.filterMap recordSequence))
        forwardCount := 0 }
    ∧ 1 ≤ taken.length ∧ taken.length ≤ 8

/-- §8.3, §8.5, §7.7, R117: a completion returns a transmitter to idle. That of the S port, while the port is UP, then takes the
oldest frame of the return queue. That of the C port is followed by the grant that it makes due, after that of an EVENT frame of
the part has started a stopped timer in AWAITING. The start of an S transmission where one is due takes the oldest frame; given
as a command of its own it is the model's, and in a run none is due (notes/assumptions/6). That a start where none is due,
and a completion with nothing in transmission, change nothing is the model's too (notes/assumptions/7). -/
def Obligations.TransmissionsBeginAndComplete : Prop :=
  ∀ s : State, s.pins = runningPins →
    (∀ f rest, isUp s.sLink → s.sTransmission = none → s.returnQueue = f :: rest →
      exec .sPortTransmitStart s = .next (grantStep { s with sTransmission := some f, returnQueue := rest }))
    ∧ (¬ isUp s.sLink ∨ s.sTransmission ≠ none ∨ s.returnQueue = [] → exec .sPortTransmitStart s = .next (grantStep s))
    ∧ (s.sTransmission = none → exec (.transmissionComplete .s) s = .next (grantStep s))
    ∧ (s.sTransmission ≠ none →
        (∀ f rest, isUp s.sLink → s.returnQueue = f :: rest →
          exec (.transmissionComplete .s) s = .next (grantStep { s with sTransmission := some f, returnQueue := rest }))
        ∧ (¬ isUp s.sLink ∨ s.returnQueue = [] →
          exec (.transmissionComplete .s) s = .next (grantStep { s with sTransmission := none })))
    ∧ (s.cTransmission = none → exec (.transmissionComplete .c) s = .next (grantStep s))
    ∧ (∀ f, s.cTransmission = some (.forwarded f) ∨ s.cTransmission = some (.response f) →
        exec (.transmissionComplete .c) s = .next (grantStep { s with cTransmission := none }))
    ∧ ∀ f sequences, s.cTransmission = some (.event f sequences) →
        exec (.transmissionComplete .c) s =
          .next (grantStep { s with
            cTransmission := none
            ackTimer := if s.reporter = .awaiting ∧ s.ackTimer = none then some s.ackTimeout else s.ackTimer })

/-! ### Time -/

/-- §4.1, §6.5: outside FILTERING a tick makes no decrement pass; it advances the tick count, begins the next tick period, and
takes one tick from a running timer, which expires at 0: below the retry limit with a retry counted, at the limit into a
stall, in both with every SENT record made RESEND. -/
def Obligations.TickOutsideFiltering : Prop :=
  ∀ s : State, s.pins = runningPins → s.mode ≠ .filtering →
    let resent := s.store.map fun r =>
      match r.delivery with
      | .sent n => { r with delivery := .resend n }
      | _ => r
    (s.ackTimer = none →
      exec .tick s = .next (grantStep { s with tickCount := s.tickCount + 1, periodInProgress := s.tickPeriod }))
    ∧ (∀ n, 2 ≤ n → s.ackTimer = some n →
      exec .tick s =
        .next (grantStep { s with tickCount := s.tickCount + 1, periodInProgress := s.tickPeriod, ackTimer := some (n - 1) }))
    ∧ (s.ackTimer = some 1 → s.retryCount < s.retryLimit →
      exec .tick s =
        .next (grantStep { s with
          tickCount := s.tickCount + 1, periodInProgress := s.tickPeriod
          ackTimer := none, store := resent, retryCount := s.retryCount + 1 }))
    ∧ (s.ackTimer = some 1 → s.retryCount = s.retryLimit →
      exec .tick s =
        .next (grantStep { s with
          tickCount := s.tickCount + 1, periodInProgress := s.tickPeriod
          ackTimer := none, store := resent, reporter := .stalled }))

/-- §4.4, §4.5, §5.3, §6.5: a tick in FILTERING counts down each UNSETTLED or TRACKING binding with a silence limit, in ascending
index. A countdown that reaches 0 makes its binding STALE with reason FRESH and, with report enable on, offers a STALE record
stamped with the advanced tick count: appended while the store has room, after which each further one sets its binding's
resync pending mark, and EVENT_LOSS is set. A running timer loses one tick, and at 0 it expires: every SENT record becomes
RESEND, and a retry is counted or the reporter stalls. R124 makes the engine's tick a happening of its own; that it follows the
decrement pass within TICK, and that one grant, where it is due, follows both, is the model's, DEDUCED (notes/assumptions/12
and 6). -/
def Obligations.TickDecrementPass : Prop :=
  ∀ s : State, s.pins = runningPins → s.mode = .filtering → KeyLaw s →
    let counts := fun (b : Binding) => b.limit ≠ 0 ∧ trackingCode b.track ≠ 2
    let expires := fun (b : Binding) => counts b ∧ b.countdown ≤ 1
    let reporting := s.bindings.filter fun e => decide (expires e.2) && e.2.report
    let lost := reporting.drop (64 - s.store.length)
    let counted : State :=
      { s with
        tickCount := s.tickCount + 1
        periodInProgress := s.tickPeriod
        bindings := s.bindings.map fun e =>
          (e.1,
            if expires e.2 then
              { e.2 with
                track := .stale (trackingZone e.2.track), reason := .fresh, countdown := 0
                resync := e.2.resync || lost.any fun l => l.1 = e.1 }
            else if counts e.2 then { e.2 with countdown := e.2.countdown - 1 }
            else e.2)
        store := s.store ++ (reporting.take (64 - s.store.length)).map fun e =>
          { body := .stale { index := e.1, source := e.2.source, channel := e.2.channel } (trackingZone e.2.track)
            delivery := .unsent, mergeCount := 1, timestamp := s.tickCount + 1 } }
    let passed := if lost = [] then counted else raiseFlag .eventLoss counted
    let resent := passed.store.map fun r =>
      match r.delivery with
      | .sent n => { r with delivery := .resend n }
      | _ => r
    (s.ackTimer = none → exec .tick s = .next (grantStep passed))
    ∧ (∀ n, 2 ≤ n → s.ackTimer = some n → exec .tick s = .next (grantStep { passed with ackTimer := some (n - 1) }))
    ∧ (s.ackTimer = some 1 → s.retryCount < s.retryLimit →
        exec .tick s = .next (grantStep { passed with ackTimer := none, store := resent, retryCount := s.retryCount + 1 }))
    ∧ (s.ackTimer = some 1 → s.retryCount = s.retryLimit →
        exec .tick s = .next (grantStep { passed with ackTimer := none, store := resent, reporter := .stalled }))

/-- §4.5: the silence expiry of a binding whose countdown is due makes it STALE with reason FRESH, its zone the last known
zone, its other dynamic fields kept; with report enable on it offers a STALE record, which a full store fails. Where no
expiry is due nothing happens (taken by itself it is the model's, notes/assumptions/4). -/
def Obligations.SilenceExpiryMakesStale : Prop :=
  ∀ (i : Fin 256) (b : Binding) (s : State), s.pins = runningPins → s.bindings.lookup i = some b →
    let stale : Binding := { b with track := .stale (trackingZone b.track), reason := .fresh, countdown := 0 }
    let subject : Subject := { index := i, source := b.source, channel := b.channel }
    (s.mode = .filtering → b.limit ≠ 0 → trackingCode b.track ≠ 2 → b.countdown = 1 →
      (b.report = false → exec (.silenceExpiry i) s = .next (grantStep { s with bindings := s.bindings.put i stale }))
      ∧ (b.report = true → s.store.length < 64 →
          exec (.silenceExpiry i) s =
            .next (grantStep { s with
              bindings := s.bindings.put i stale
              store := withRecord (.stale subject (trackingZone b.track)) s }))
      ∧ (b.report = true → 64 ≤ s.store.length →
          exec (.silenceExpiry i) s =
            .next (grantStep (raiseFlag .eventLoss { s with bindings := s.bindings.put i { stale with resync := true } }))))
    ∧ ((s.mode ≠ .filtering ∨ b.limit = 0 ∨ trackingCode b.track = 2 ∨ 1 < b.countdown) →
        exec (.silenceExpiry i) s = .next (grantStep s))

/-- §6.5: the expiry of a timer with its last tick to go makes every SENT record RESEND and stops the timer; below the retry
limit it counts a retry, at the limit the reporter stalls with the count at the limit. A timer that is stopped or has more
ticks to go does not expire (taken by itself the expiry is the model's, notes/assumptions/5). -/
def Obligations.AckTimerExpiryResendsOrStalls : Prop :=
  ∀ s : State, s.pins = runningPins →
    let resent := s.store.map fun r =>
      match r.delivery with
      | .sent n => { r with delivery := .resend n }
      | _ => r
    (s.ackTimer = some 1 →
      (s.retryCount < s.retryLimit →
        exec .ackTimerExpiry s = .next (grantStep { s with store := resent, ackTimer := none, retryCount := s.retryCount + 1 }))
      ∧ (s.retryCount = s.retryLimit →
        exec .ackTimerExpiry s = .next (grantStep { s with store := resent, ackTimer := none, reporter := .stalled })))
    ∧ (s.ackTimer = none ∨ (∃ n, 2 ≤ n ∧ s.ackTimer = some n) → exec .ackTimerExpiry s = .next (grantStep s))

/-! ### Node control -/

/-- R187: an ENUM with address field 1..62 gives the node that address and makes an UNADDRESSED node FILTERING; it is passed on
with the next address, its extension and payload kept. An address field of 0 or 63 gives none and is passed on as received.
At a full return queue the ENUM is lost with FWD_LOSS_S, and the node keeps the address it has taken. -/
def Obligations.EnumGivesAddress : Prop :=
  ∀ (a : BitVec 6) (ext : BitVec 15) (payload : List Word) (s : State), Receives .c s → payload.length ≤ 64 →
    (a ≠ 0 → a ≠ 63 →
      exec (.enum a ext payload) s =
        .next (grantStep (passedOn { kind := 10, address := a + 1, extension := ext, payload := payload }
          { s with
            cLink := .up 0 false, address := a
            mode := if s.mode = .unaddressed then .filtering else s.mode })))
    ∧ (a = 0 ∨ a = 63 →
      exec (.enum a ext payload) s =
        .next (grantStep (passedOn { kind := 10, address := a, extension := ext, payload := payload }
          { s with cLink := .up 0 false })))

/-- §10.4 and the reset tables: a RESET frame sets every block to its chain-reset state and joins the emptied return queue, from
which an UP S port takes it at once; bindings keep their static fields, banks, settings, tick count, next sequence number and
links are kept. -/
def Obligations.ChainResetState : Prop :=
  ∀ (a : BitVec 6) (ext : BitVec 15) (payload : List Word) (s : State), Receives .c s → payload.length ≤ 64 →
    let frame : Frame := { kind := 11, address := a, extension := ext, payload := payload }
    exec (.chainReset a ext payload) s =
      .next { s with
        cLink := .up 0 false
        address := 0, mode := .unaddressed, cTransmission := none
        bindings := s.bindings.map fun e =>
          (e.1, { e.2 with
            track := .unsettled, reason := .restarted, lastValue := none, decimation := 0, countdown := e.2.limit
            latches := none, resync := false, seen := 0, transitions := 0 })
        sweep := none, store := [], owedNotices := 0, reporter := .idle, ackTimer := none, retryCount := 0
        forwardQueue := []
        sTransmission := if isUp s.sLink then some frame else none
        returnQueue := if isUp s.sLink then [] else [frame]
        forwardCount := 0, responses := [], cache := [], flags := 0 }

/-- §10.5: SET_MODE sets the mode and answers with the former one; the return from TRANSPARENT to FILTERING unsettles every
bound binding with reason RESUMED, its latches kept and its countdown reloaded; other codes are refused with RANGE. -/
def Obligations.SetModeChangesMode : Prop :=
  ∀ (r : Request) (code : Word) (s : State), Executes 4 r s → r.operands = [code] → s.sweep = none →
    (code = 1 →
      exec (.setMode r) s = .next (grantStep { answered 4 r.tag .ok [present (modeCode s.mode)] s with mode := .transparent }))
    ∧ (code = 2 → s.mode = .filtering → exec (.setMode r) s = .next (grantStep (answered 4 r.tag .ok [present 2] s)))
    ∧ (code = 2 → s.mode = .transparent →
      exec (.setMode r) s =
        .next (grantStep { answered 4 r.tag .ok [present 1] s with
          mode := .filtering
          bindings := s.bindings.map fun e =>
            (e.1, { e.2 with track := .unsettled, reason := .resumed, countdown := e.2.limit }) }))
    ∧ (code ≠ 1 → code ≠ 2 → exec (.setMode r) s = .next (grantStep (answered 4 r.tag .range [] s)))

/-- §10.6: a node restart. An EVENT frame in transmission on the C port is aborted, whichever filter it is of; the flags, the store,
the owed marks and the cache are emptied, the bindings reset, the reporter IDLE, the sweep abandoned with an ABORTED response
for a unicast COMMIT ahead of the RESTART's own; address, mode, banks, settings, the two frame queues, the S transmission and
the responses already queued are kept. A response queue that the ABORTED response fills takes no response of the RESTART:
MGMT_OVERRUN is set, and its cache entry is made all the same. -/
def Obligations.RestartState : Prop :=
  ∀ (r : Request) (s : State), Executes 5 r s → r.operands = [] →
    let own : Response := { tag := r.tag, code := 5, status := .ok, results := [present s.store.length] }
    let restarted : State :=
      { s with
        cLink := .up 0 false
        cTransmission := match s.cTransmission with
          | some (.event _ _) => none
          | some (.forwarded f) => if f.kind = 2 then none else some (.forwarded f)
          | other => other
        bindings := s.bindings.map fun e =>
          (e.1, { e.2 with
            track := .unsettled, reason := .restarted, lastValue := none, decimation := 0, countdown := e.2.limit
            latches := none, resync := false, seen := 0, transitions := 0 })
        sweep := none, store := [], owedNotices := 0, reporter := .idle, ackTimer := none, retryCount := 0
        forwardCount := 0, flags := 0 }
    (s.responses.length + (abortedCommit s).length < 4 →
      exec (.restart r) s =
        .next (grantStep { restarted with responses := s.responses ++ abortedCommit s ++ [own], cache := [own] }))
    ∧ (s.responses.length + (abortedCommit s).length = 4 →
      exec (.restart r) s =
        .next (grantStep { raiseFlag .mgmtOverrun { restarted with responses := s.responses ++ abortedCommit s } with
          cache := [own] }))

/-! ### The management agent -/

/-- R168: a command code the part does not define is answered UNKNOWN, and a wrong operand count MALFORMED, with no results and
no other change than the response and its cache entry. -/
def Obligations.UnknownAndMalformed : Prop :=
  (∀ (code : BitVec 8) (r : Request) (s : State), code ∉ definedCodes → Executes code r s →
    exec (.unknownCommand code r) s = .next (grantStep (answered code r.tag .unknown [] s)))
  ∧ ∀ (c : Command) (r : Request) (s : State), Executes (commandCode c) r s → operandCountFits c r.operands = false →
      exec (requestCommand c r) s = .next (grantStep (answered (commandCode c) r.tag .malformed [] s))

/-- R38: while a commit sweep is in progress the eight writing commands are refused with BUSY before any check of their
operands. -/
def Obligations.WritesAreBusyDuringSweep : Prop :=
  ∀ (c : Command) (r : Request) (s : State),
    c ∈ [Command.loadProfile, .clearProfile, .copyActive, .commit, .bind, .unbind, .modifyBinding, .setMode] →
    s.sweep.isSome → Executes (commandCode c) r s → operandCountFits c r.operands = true →
    exec (requestCommand c r) s = .next (grantStep (answered (commandCode c) r.tag .busy [] s))

/-- R165 to R167, R39: a unicast repeat of the running COMMIT is ignored; a request of any command code that meets a full response
queue is discarded with MGMT_OVERRUN; a repeat of a cached tag and command code queues the cached response at the back and
changes nothing else, whatever its operands. -/
def Obligations.UnicastTestsBeforeExecution : Prop :=
  ∀ (i : Instr) (code : BitVec 8) (r : Request) (s : State), ReachesAgent r s →
    ((∃ c, i = requestCommand c r ∧ code = commandCode c) ∨ (code ∉ definedCodes ∧ i = .unknownCommand code r)) →
    (code = 35 → (∃ w, s.sweep = some w ∧ w.tag = r.tag) → exec i s = .next (grantStep { s with cLink := .up 0 false }))
    ∧ (repeatsCommit code r.tag s = false → 4 ≤ s.responses.length →
      exec i s = .next (grantStep (raiseFlag .mgmtOverrun { s with cLink := .up 0 false })))
    ∧ ∀ e, repeatsCommit code r.tag s = false → s.responses.length < 4 → e ∈ s.cache → CacheLaw s → e.tag = r.tag →
        e.code = code → exec i s = .next (grantStep { s with cLink := .up 0 false, responses := s.responses ++ [e] })

/-- §9.3, §8.1, §10.5, §10.6: a broadcast request is passed on, or its copy lost at a full return queue, and an addressed node then
takes it all the same: it executes SET_MODE, RESTART and COMMIT alone, without a response or a cache entry of the request. A
RESTART restarts the node, an abandoned unicast COMMIT answered ABORTED. A refusal (a wrong operand count, BUSY, CONFLICT,
RANGE) leaves no trace beyond the copy, and a full response queue discards the three with MGMT_OVERRUN. A request
for another node, or at an UNADDRESSED one, is passed on alone, whatever its command code. -/
def Obligations.BroadcastRequests : Prop :=
  (∀ (code : BitVec 8) (r : Request) (s : State), Arrives r s → code ∉ definedCodes →
    (s.mode = .unaddressed ∨ r.address ≠ s.address) →
    exec (.unknownCommand code r) s = .next (grantStep (passedOn (requestAsFrame code r) { s with cLink := .up 0 false })))
  ∧ ∀ (c : Command) (r : Request) (s : State), Arrives r s →
      let passed : State := passedOn (requestAsFrame (commandCode c) r) { s with cLink := .up 0 false }
      let leaves := fun (t : State) => exec (requestCommand c r) s = .next (grantStep t)
      ((s.mode = .unaddressed ∨ (r.address ≠ s.address ∧ r.address ≠ 63)) → leaves passed)
      ∧ (s.mode ≠ .unaddressed → r.address = 63 → s.address ≠ 63 →
        (c ≠ .setMode → c ≠ .restart → c ≠ .commit → leaves passed)
        ∧ ((c = .setMode ∨ c = .restart ∨ c = .commit) → 4 ≤ s.responses.length → leaves (raiseFlag .mgmtOverrun passed))
        ∧ (s.responses.length < 4 →
          (c = .setMode →
            (r.operands.length ≠ 1 ∨ s.sweep ≠ none → leaves passed)
            ∧ ∀ code, r.operands = [code] → s.sweep = none →
                (code ≠ 1 → code ≠ 2 → leaves passed)
                ∧ (code = 1 → leaves { passed with mode := .transparent })
                ∧ (code = 2 → s.mode = .filtering → leaves passed)
                ∧ (code = 2 → s.mode = .transparent →
                    leaves { passed with
                      mode := .filtering
                      bindings := s.bindings.map fun e =>
                        (e.1, { e.2 with track := .unsettled, reason := .resumed, countdown := e.2.limit }) }))
          ∧ (c = .restart →
            (r.operands ≠ [] → leaves passed) ∧ (r.operands = [] → leaves (afterRestart passed)))
          ∧ (c = .commit →
            (r.operands ≠ [] ∨ s.sweep ≠ none ∨ (∃ e ∈ s.bindings, s.shadowBank.lookup e.2.profile = none) → leaves passed)
            ∧ (r.operands = [] → s.sweep = none → (∀ e ∈ s.bindings, (s.shadowBank.lookup e.2.profile).isSome) →
                leaves { passed with sweep := some { tag := r.tag, broadcast := true } }))))

/-- R169: making a cache entry. The new entry is the newest; an entry of its tag is removed, else the oldest of four; the others
keep their order. -/
def Obligations.CacheEntryIsMade : Prop :=
  ∀ (r : Response) (cache : List Response), cache.length ≤ 4 → (cache.map Response.tag).Pairwise (· ≠ ·) →
    ∃ kept, cacheWith r cache = kept ++ [r] ∧ kept.Sublist cache ∧ kept.length ≤ 3 ∧ (∀ e ∈ kept, e.tag ≠ r.tag)
      ∧ ((∃ e ∈ cache, e.tag = r.tag) → cache.length = kept.length + 1)
      ∧ ((∀ e ∈ cache, e.tag ≠ r.tag) → cache.length < 4 → kept = cache)
      ∧ ∀ oldest rest, (∀ e ∈ cache, e.tag ≠ r.tag) → cache.length = 4 → cache = oldest :: rest → kept = rest

/-- §9.5: IDENTIFY and READ_STATUS answer with their tables and change nothing but the response and its entry. That IDENTIFY's
tenth result is the period code as set, also while the tick period in progress runs at another, is the model's reading
(notes/assumptions/10). -/
def Obligations.IdentifyAndReadStatus : Prop :=
  ∀ (r : Request) (s : State), r.operands = [] →
    (Executes 1 r s →
      exec (.identify r) s = .next (grantStep (answered 1 r.tag .ok
        [ some 0x0320#16, some 1#16, present s.address.toNat, present (if s.mode = .filtering then 2 else 1),
          some 256#16, some 32#16, some 15#16, some 64#16, some 8#16, present s.tickPeriod.toNat ] s)))
    ∧ (Executes 2 r s →
      exec (.readStatus r) s = .next (grantStep (answered 2 r.tag .ok
        [ some (s.flags.setWidth 16), present (reporterCode s.reporter), present s.retryCount, some s.nextSequence,
          present s.store.length, present (s.store.filter fun x => x.delivery ≠ .unsent).length,
          present s.bindings.length, present (if s.sweep = none then 0 else 1),
          present (if s.mode = .filtering then 2 else 1), present s.address.toNat ] s)))

/-- §9.5: CLEAR_STATUS clears exactly the flags named in its mask and answers with the flags as they stood; a mask above 511 is
refused. No record is created or removed. -/
def Obligations.ClearStatusClearsMask : Prop :=
  ∀ (r : Request) (mask : Word) (s : State), Executes 3 r s → r.operands = [mask] →
    (mask.toNat ≤ 511 → ∃ flags,
      exec (.clearStatus r) s =
        .next (grantStep { answered 3 r.tag .ok [some (s.flags.setWidth 16)] s with flags := flags })
      ∧ ∀ f, hasFlag flags f = (hasFlag s.flags f && !mask.getLsbD (flagCode f)))
    ∧ (511 < mask.toNat → exec (.clearStatus r) s = .next (grantStep (answered 3 r.tag .range [] s)))

/-- §4.2, §5.5, §8.4: SET_TICK, SET_NOTICES and SET_DEFAULT replace their setting and nothing else, answer with the one in force
before, and refuse a value out of range. SET_TICK leaves the period in progress. That its answer is the former setting, also
for a second SET_TICK within one tick period, is the model's reading (notes/assumptions/10). -/
def Obligations.SettingCommandsReplaceSetting : Prop :=
  ∀ (r : Request) (w : Word) (s : State), r.operands = [w] →
    (Executes 48 r s →
      (w.toNat ≤ 3 → exec (.setTick r) s =
        .next (grantStep { answered 48 r.tag .ok [present s.tickPeriod.toNat] s with tickPeriod := BitVec.ofNat 2 w.toNat }))
      ∧ (3 < w.toNat → exec (.setTick r) s = .next (grantStep (answered 48 r.tag .range [] s))))
    ∧ (Executes 51 r s →
      (w.toNat ≤ 511 → exec (.setNotices r) s =
        .next (grantStep { answered 51 r.tag .ok [present s.noticeMask.toNat] s with noticeMask := BitVec.ofNat 9 w.toNat }))
      ∧ (511 < w.toNat → exec (.setNotices r) s = .next (grantStep (answered 51 r.tag .range [] s))))
    ∧ (Executes 52 r s →
      let before := [present (if s.defaultPolicy = .pass then 0 else 3)]
      (w = 0 → exec (.setDefault r) s = .next (grantStep { answered 52 r.tag .ok before s with defaultPolicy := .pass }))
      ∧ (w = 3 → exec (.setDefault r) s = .next (grantStep { answered 52 r.tag .ok before s with defaultPolicy := .drop }))
      ∧ (w ≠ 0 → w ≠ 3 → exec (.setDefault r) s = .next (grantStep (answered 52 r.tag .range [] s))))

/-- §6.5, §6.6: SET_DELIVERY replaces both settings and lowers a retry count above the new limit to it, or refuses with RANGE and
changes neither; CLEAR_STALL takes a STALLED reporter to AWAITING with the retry count 0 and changes nothing otherwise. -/
def Obligations.DeliveryCommands : Prop :=
  ∀ (r : Request) (s : State),
    (∀ timeout limit : Word, r.operands = [timeout, limit] → Executes 49 r s →
      (1 ≤ timeout.toNat ∧ timeout.toNat ≤ 255 ∧ 1 ≤ limit.toNat ∧ limit.toNat ≤ 15 →
        exec (.setDelivery r) s =
          .next (grantStep { answered 49 r.tag .ok [present s.ackTimeout, present s.retryLimit] s with
            ackTimeout := timeout.toNat
            retryLimit := limit.toNat
            retryCount := if limit.toNat < s.retryCount then limit.toNat else s.retryCount }))
      ∧ (timeout.toNat < 1 ∨ 255 < timeout.toNat ∨ limit.toNat < 1 ∨ 15 < limit.toNat →
        exec (.setDelivery r) s = .next (grantStep (answered 49 r.tag .range [] s))))
    ∧ (r.operands = [] → Executes 50 r s →
      (s.reporter = .stalled →
        exec (.clearStall r) s =
          .next (grantStep { answered 50 r.tag .ok [present 2] s with reporter := .awaiting, retryCount := 0 }))
      ∧ (s.reporter ≠ .stalled →
        exec (.clearStall r) s = .next (grantStep (answered 50 r.tag .ok [present (reporterCode s.reporter)] s))))

/-! ### Binding commands -/

/-- §1.4.1: BIND makes its checks in order (RANGE, IN_USE, CONFLICT, NO_ENTRY after BUSY) and, where all pass, binds the entry with
the operands and the fields of R16 and changes nothing else. -/
def Obligations.BindChecksAndBinds : Prop :=
  ∀ (r : Request) (index source channel profile policy factor report limit : Word) (s : State), Executes 16 r s →
    r.operands = [index, source, channel, profile, policy, factor, report, limit] → s.sweep = none →
    let inRange := index.toNat ≤ 255 ∧ (1 ≤ source.toNat ∧ source.toNat ≤ 62) ∧ channel.toNat ≤ 31 ∧ profile.toNat ≤ 31
      ∧ policy.toNat ≤ 3 ∧ (1 ≤ factor.toNat ∧ factor.toNat ≤ 255) ∧ report.toNat ≤ 1
    let i : Fin 256 := Fin.ofNat 256 index.toNat
    let p : Fin 32 := Fin.ofNat 32 profile.toNat
    let keyBound := ∃ e ∈ s.bindings, e.2.source.toNat = source.toNat ∧ e.2.channel.toNat = channel.toNat
    (¬ inRange → exec (.bind r) s = .next (grantStep (answered 16 r.tag .range [] s)))
    ∧ (inRange → s.bindings.lookup i ≠ none → exec (.bind r) s = .next (grantStep (answered 16 r.tag .inUse [] s)))
    ∧ (inRange → s.bindings.lookup i = none → keyBound →
        exec (.bind r) s = .next (grantStep (answered 16 r.tag .conflict [] s)))
    ∧ (inRange → s.bindings.lookup i = none → ¬ keyBound → s.activeBank.lookup p = none →
        exec (.bind r) s = .next (grantStep (answered 16 r.tag .noEntry [] s)))
    ∧ (inRange → s.bindings.lookup i = none → ¬ keyBound → s.activeBank.lookup p ≠ none →
        exec (.bind r) s =
          .next (grantStep { answered 16 r.tag .ok [] s with
            bindings := s.bindings.put i
              { source := BitVec.ofNat 6 source.toNat, channel := BitVec.ofNat 5 channel.toNat, profile := p
                policy :=
                  if policy = 0 then .pass else if policy = 1 then .decimate else if policy = 2 then .onChange else .drop
                factor := factor.toNat, report := decide (report = 1), limit := limit.toNat
                track := .unsettled, reason := .bound, lastValue := none, decimation := 0, countdown := limit.toNat
                latches := none, resync := false, seen := 0, transitions := 0 } }))

/-- §1.4.2, §5.6: UNBIND frees the entry and removes its UNSENT records, whose number it answers; every other entry and every other
record stays, in its order. -/
def Obligations.UnbindFreesEntry : Prop :=
  ∀ (r : Request) (index : Word) (s : State), Executes 17 r s → r.operands = [index] → s.sweep = none →
    let i : Fin 256 := Fin.ofNat 256 index.toNat
    let removed := fun (x : Record) =>
      decide (x.delivery = .unsent ∧ (bodySubject x.body).map Subject.index = some i)
    (255 < index.toNat → exec (.unbind r) s = .next (grantStep (answered 17 r.tag .range [] s)))
    ∧ (index.toNat ≤ 255 → s.bindings.lookup i = none →
        exec (.unbind r) s = .next (grantStep (answered 17 r.tag .noEntry [] s)))
    ∧ (index.toNat ≤ 255 → s.bindings.lookup i ≠ none →
        ∃ bindings : Table 256 Binding,
          exec (.unbind r) s =
            .next (grantStep { answered 17 r.tag .ok [present (s.store.filter removed).length] s with
              bindings := bindings, store := s.store.filter fun x => !removed x })
          ∧ bindings = s.bindings.filter (fun e => decide (e.1 ≠ i))
          ∧ bindings.lookup i = none
          ∧ ∀ j, j ≠ i → bindings.lookup j = s.bindings.lookup j)

/-- §1.4.3: MODIFY_BINDING with any subset of its five fields, named by the mask. RANGE for the index, the mask or a value out of
range; NO_ENTRY for a free entry, then for an empty slot. Else the named static fields take their values; a changed profile
unsettles with reason REPROFILED, a changed policy or factor sets the decimation counter to 0, a changed limit reloads the
countdown, and everything else is kept. -/
def Obligations.ModifyBindingChangesFields : Prop :=
  ∀ (r : Request) (index mask : Word) (profile policy factor report limit : Option Word) (s : State),
    Executes 18 r s → s.sweep = none →
    r.operands = index :: mask :: [profile, policy, factor, report, limit].reduceOption →
    mask.toNat % 32 =
      (if profile.isSome then 1 else 0) + (if policy.isSome then 2 else 0) + (if factor.isSome then 4 else 0)
        + (if report.isSome then 8 else 0) + (if limit.isSome then 16 else 0) →
    let i : Fin 256 := Fin.ofNat 256 index.toNat
    let inRange := index.toNat ≤ 255 ∧ mask.toNat ≤ 31 ∧ (∀ w ∈ profile, w.toNat ≤ 31) ∧ (∀ w ∈ policy, w.toNat ≤ 3)
      ∧ (∀ w ∈ factor, 1 ≤ w.toNat ∧ w.toNat ≤ 255) ∧ ∀ w ∈ report, w.toNat ≤ 1
    (¬ inRange → exec (.modifyBinding r) s = .next (grantStep (answered 18 r.tag .range [] s)))
    ∧ (inRange → s.bindings.lookup i = none →
        exec (.modifyBinding r) s = .next (grantStep (answered 18 r.tag .noEntry [] s)))
    ∧ ∀ b, inRange → s.bindings.lookup i = some b →
        let newProfile : Fin 32 := profile.elim b.profile fun w => Fin.ofNat 32 w.toNat
        let newPolicy : Policy := policy.elim b.policy fun w =>
          if w = 0 then .pass else if w = 1 then .decimate else if w = 2 then .onChange else .drop
        let newFactor := factor.elim b.factor BitVec.toNat
        let newLimit := limit.elim b.limit BitVec.toNat
        (profile.isSome → s.activeBank.lookup newProfile = none →
          exec (.modifyBinding r) s = .next (grantStep (answered 18 r.tag .noEntry [] s)))
        ∧ (profile = none ∨ s.activeBank.lookup newProfile ≠ none →
          exec (.modifyBinding r) s =
            .next (grantStep { answered 18 r.tag .ok [] s with
              bindings := s.bindings.put i
                { b with
                  profile := newProfile, policy := newPolicy, factor := newFactor
                  report := report.elim b.report fun w => decide (w = 1)
                  limit := newLimit
                  decimation := if newPolicy = b.policy ∧ newFactor = b.factor then b.decimation else 0
                  countdown := if newProfile = b.profile ∧ newLimit = b.limit then b.countdown else newLimit
                  track := if newProfile = b.profile then b.track else .unsettled
                  reason := if newProfile = b.profile then b.reason else .reprofiled
                  latches := if newProfile = b.profile then b.latches else none } }))

/-- R20, R21: READ_BINDING answers with the 21 fields as they stood and, with its clear flag, then clears the latches to the zone of
a TRACKING binding and to absent otherwise; without it nothing changes. -/
def Obligations.ReadBindingReadsAndClears : Prop :=
  ∀ (r : Request) (index clear : Word) (s : State), Executes 19 r s → r.operands = [index, clear] →
    let i : Fin 256 := Fin.ofNat 256 index.toNat
    (255 < index.toNat ∨ 1 < clear.toNat → exec (.readBinding r) s = .next (grantStep (answered 19 r.tag .range [] s)))
    ∧ (index.toNat ≤ 255 → clear.toNat ≤ 1 → s.bindings.lookup i = none →
        exec (.readBinding r) s = .next (grantStep (answered 19 r.tag .noEntry [] s)))
    ∧ ∀ b, index.toNat ≤ 255 → s.bindings.lookup i = some b →
        let results : List (Option Word) :=
          [ some index, present b.source.toNat, present b.channel.toNat, present b.profile.val,
            present (policyCode b.policy), present b.factor, present (if b.report then 1 else 0), present b.limit,
            present (trackingCode b.track), present (reasonCode b.reason), maybe (trackingZone b.track),
            maybe ((trackingCandidate b.track).map Candidate.zone),
            present ((trackingCandidate b.track).elim 0 Candidate.count), b.lastValue, present b.decimation,
            present b.countdown, maybe (b.latches.map Latches.high), maybe (b.latches.map Latches.low),
            present (if b.resync then 1 else 0), some b.seen, some b.transitions ]
        (clear = 0 → exec (.readBinding r) s = .next (grantStep (answered 19 r.tag .ok results s)))
        ∧ (clear = 1 →
            exec (.readBinding r) s =
              .next (grantStep { answered 19 r.tag .ok results s with
                bindings := s.bindings.put i
                  { b with
                    latches := match b.track with
                      | .tracking z _ => some { high := z, low := z }
                      | _ => none } }))

/-! ### Profile commands and the commit sweep -/

/-- §2.3: LOAD_PROFILE writes the shadow slot alone with the profile of its form and answers with the threshold count. RANGE for the
slot, form, hysteresis, persistence or edge mode. Explicit: a list that does not increase strictly is MALFORMED. Span: RANGE
for the step, MALFORMED for the count, RANGE for a threshold outside the sample range, in that order. -/
def Obligations.LoadProfileWritesShadow : Prop :=
  ∀ (r : Request) (slot hysteresis persistence edge : Word) (s : State), Executes 32 r s → s.sweep = none →
    let inRange := slot.toNat ≤ 31 ∧ hysteresis.toNat ≤ 4095 ∧ (1 ≤ persistence.toNat ∧ persistence.toNat ≤ 15)
      ∧ edge.toNat ≤ 3
    let i : Fin 32 := Fin.ofNat 32 slot.toNat
    let e : Edge := if edge = 0 then .none else if edge = 1 then .rising else if edge = 2 then .falling else .both
    let range := exec (.loadProfile r) s = .next (grantStep (answered 32 r.tag .range [] s))
    let malformed := exec (.loadProfile r) s = .next (grantStep (answered 32 r.tag .malformed [] s))
    (∀ (form k : Word) (ts : List Word), form ≠ 1 → r.operands = [slot, form, hysteresis, persistence, edge, k] ++ ts →
      1 ≤ k.toNat → k.toNat ≤ 15 → ts.length = k.toNat →
      (¬ inRange ∨ form ≠ 0 → range)
      ∧ (inRange → form = 0 → ts.Pairwise (fun a b => a.signed < b.signed) →
        exec (.loadProfile r) s =
          .next (grantStep { answered 32 r.tag .ok [some k] s with
            shadowBank := s.shadowBank.put i
              { thresholds := ts, hysteresis := hysteresis.toNat, persistence := persistence.toNat, edge := e
                origin := .explicit } }))
      ∧ (inRange → form = 0 → ¬ ts.Pairwise (fun a b => a.signed < b.signed) → malformed))
    ∧ ∀ base step count : Word, r.operands = [slot, 1, hysteresis, persistence, edge, base, step, count] →
        let last := base.signed + ((count.toNat : Int) - 1) * step.toNat
        let stepFits := 1 ≤ step.toNat ∧ step.toNat ≤ 8192
        let countFits := 1 ≤ count.toNat ∧ count.toNat ≤ 15
        (¬ inRange ∨ ¬ stepFits → range)
        ∧ (inRange → stepFits → ¬ countFits → malformed)
        ∧ (inRange → stepFits → countFits → 32767 < last → range)
        ∧ (inRange → stepFits → countFits → last ≤ 32767 →
            exec (.loadProfile r) s =
              .next (grantStep { answered 32 r.tag .ok [some count] s with
                shadowBank := s.shadowBank.put i
                  { thresholds := (List.range count.toNat).map fun j => base + BitVec.ofNat 16 j * step
                    hysteresis := hysteresis.toNat, persistence := persistence.toNat, edge := e, origin := .span } }))

/-- §2.3: CLEAR_PROFILE empties one shadow slot, COPY_ACTIVE makes the shadow bank the active one and counts its slots, READ_PROFILE
answers with a slot of either bank and changes nothing. -/
def Obligations.ProfileStoreCommands : Prop :=
  ∀ (r : Request) (s : State),
    (∀ slot : Word, Executes 33 r s → r.operands = [slot] → s.sweep = none →
      (31 < slot.toNat → exec (.clearProfile r) s = .next (grantStep (answered 33 r.tag .range [] s)))
      ∧ (slot.toNat ≤ 31 → ∃ bank : Bank,
          exec (.clearProfile r) s = .next (grantStep { answered 33 r.tag .ok [] s with shadowBank := bank })
          ∧ bank.lookup (Fin.ofNat 32 slot.toNat) = none
          ∧ ∀ j, j ≠ Fin.ofNat 32 slot.toNat → bank.lookup j = s.shadowBank.lookup j))
    ∧ (Executes 34 r s → r.operands = [] → s.sweep = none →
      exec (.copyActive r) s =
        .next (grantStep { answered 34 r.tag .ok [present s.activeBank.length] s with shadowBank := s.activeBank }))
    ∧ ∀ bank slot : Word, Executes 36 r s → r.operands = [bank, slot] →
        let i : Fin 32 := Fin.ofNat 32 slot.toNat
        let users := present (s.bindings.filter fun e => e.2.profile = i).length
        let content := if bank = 0 then s.activeBank.lookup i else s.shadowBank.lookup i
        (1 < bank.toNat ∨ 31 < slot.toNat → exec (.readProfile r) s = .next (grantStep (answered 36 r.tag .range [] s)))
        ∧ (bank.toNat ≤ 1 → slot.toNat ≤ 31 → content = none →
            exec (.readProfile r) s = .next (grantStep (answered 36 r.tag .ok [some bank, some slot, users, some 0] s)))
        ∧ ∀ p, bank.toNat ≤ 1 → slot.toNat ≤ 31 → content = some p →
            exec (.readProfile r) s =
              .next (grantStep (answered 36 r.tag .ok
                ([ some bank, some slot, users, some 1, present (originCode p.origin), present (edgeCode p.edge),
                    present p.hysteresis, present p.persistence, present p.thresholds.length ]
                  ++ p.thresholds.map some) s))

/-- §2.4: a COMMIT under which a bound binding would name an empty slot is refused with CONFLICT and the lowest such index; any other
begins the sweep with its tag, and queues no response and makes no cache entry. -/
def Obligations.CommitChecksAndBegins : Prop :=
  ∀ (r : Request) (s : State), Executes 35 r s → r.operands = [] → s.sweep = none → KeyLaw s →
    ((∀ i b, s.bindings.lookup i = some b → (s.shadowBank.lookup b.profile).isSome) →
      exec (.commit r) s =
        .next (grantStep { s with cLink := .up 0 false, sweep := some { tag := r.tag, broadcast := false } }))
    ∧ ∀ i b, s.bindings.lookup i = some b → s.shadowBank.lookup b.profile = none →
        (∀ j c, s.bindings.lookup j = some c → j < i → (s.shadowBank.lookup c.profile).isSome) →
        exec (.commit r) s = .next (grantStep (answered 35 r.tag .conflict [present i.val] s))

/-- §2.4: at the sweep end the banks are exchanged, each binding whose threshold list, hysteresis or persistence differs is
unsettled with reason REPROFILED, and a unicast COMMIT is answered with their number and cached; at a full response queue
MGMT_OVERRUN is set and the entry is made all the same. That a sweep end without a sweep changes nothing is the model's
(notes/assumptions/7). -/
def Obligations.SweepEndExchangesBanks : Prop :=
  ∀ s : State, s.pins = runningPins →
    let differs := fun (b : Binding) =>
      (s.activeBank.lookup b.profile).map (fun p => (p.thresholds, p.hysteresis, p.persistence))
        ≠ (s.shadowBank.lookup b.profile).map (fun p => (p.thresholds, p.hysteresis, p.persistence))
    let exchanged : State :=
      { s with
        activeBank := s.shadowBank, shadowBank := s.activeBank, sweep := none
        bindings := s.bindings.map fun e =>
          (e.1,
            if differs e.2 then
              { e.2 with track := .unsettled, reason := .reprofiled, countdown := e.2.limit, latches := none }
            else e.2) }
    let response := fun (tag : BitVec 8) =>
      ({ tag := tag, code := 35, status := .ok
         results := [present (s.bindings.filter fun e => decide (differs e.2)).length] } : Response)
    (s.sweep = none → exec .commitSweepEnd s = .next (grantStep s))
    ∧ (∀ tag, s.sweep = some { tag := tag, broadcast := true } → exec .commitSweepEnd s = .next (grantStep exchanged))
    ∧ ∀ tag, s.sweep = some { tag := tag, broadcast := false } →
        (s.responses.length < 4 →
          exec .commitSweepEnd s =
            .next (grantStep { exchanged with
              responses := s.responses ++ [response tag], cache := cacheWith (response tag) s.cache }))
        ∧ (4 ≤ s.responses.length →
          exec .commitSweepEnd s =
            .next (grantStep { raiseFlag .mgmtOverrun exchanged with cache := cacheWith (response tag) s.cache }))

/-! ### Encodings -/

/-- §7.2, §7.3, §9.2: the words of a frame, with its CRC, are read back as that frame by the receive checks, for every kind,
address, extension and payload of up to 64 words; with any other check word they are faulty. The layouts of Table 7-1,
word by word: the header, the SAMPLE payload, the MGMT_REQ payload, written and read, the words of an ACK, the seven words of
a record of each kind, the EVENT frame and the MGMT_RSP frame that the part originates, with the absence masks. -/
def Obligations.FrameWordsReadBack : Prop :=
  let word := fun (n : Nat) => BitVec.ofNat 16 n
  (∀ f : Frame, f.payload.length ≤ 64 →
    readFrame (frameWords f) = some f
    ∧ (∀ check, check ≠ crc (coveredWords f) → readFrame (coveredWords f ++ [check]) = none)
    ∧ coveredWords f =
        word (4096 * f.kind.toNat + 64 * f.address.toNat + f.payload.length % 64)
          :: word (2 * f.extension.toNat + f.payload.length / 64) :: f.payload)
  ∧ (∀ f : SampleFrame, f.pairs.length ≤ 16 →
      sampleAsFrame f =
        { kind := 1, address := f.source, extension := f.extension
          payload := word (256 * f.sequence.toNat + f.pairs.length)
            :: f.pairs.flatMap fun p => [word p.channel.toNat, p.value] })
  ∧ (∀ (code : BitVec 8) (r : Request),
      requestAsFrame code r =
        { kind := 9, address := r.address, extension := r.extension
          payload := word (256 * r.tag.toNat + code.toNat) :: r.operands }
      ∧ readRequest (requestAsFrame code r) = some (code, r))
  ∧ (∀ (address : BitVec 6) (extension : BitVec 15) (expected : Word),
      coveredWords { kind := 8, address := address, extension := extension, payload := [expected] } =
        [word (4096 * 8 + 64 * address.toNat + 1), word (2 * extension.toNat), expected])
  ∧ (∀ (r : Record) (n : BitVec 16), r.delivery = .sent n → r.mergeCount ≤ 255 →
      let place := fun (u : Subject) => word (256 * u.index.val + u.source.toNat)
      let times := [word (r.timestamp.toNat / 65536), word (r.timestamp.toNat % 65536)]
      (∀ u a z v, a ≤ 15 → z ≤ 15 → r.body = .transition u a z v →
        recordWords r =
          [ n, word (4096 * (if a < z then 0 else if z < a then 1 else 2) + 256 * 15 + r.mergeCount), place u,
            word (2048 * u.channel.toNat + 64 * a + 2 * z + 1), v ] ++ times)
      ∧ (∀ u z v reason, z ≤ 15 → r.body = .settled u z v reason →
        recordWords r =
          [ n, word (4096 * 4 + 256 * reasonCode reason + r.mergeCount), place u,
            word (2048 * u.channel.toNat + 64 * 31 + 2 * z + v.elim 0 fun _ => 1), v.getD 0 ] ++ times)
      ∧ (∀ u z, (∀ a ∈ z, a ≤ 15) → r.body = .stale u z →
        recordWords r =
          [ n, word (4096 * 3 + 256 * 15 + r.mergeCount), place u,
            word (2048 * u.channel.toNat + 64 * z.getD 31 + 2 * 31), 0 ] ++ times)
      ∧ ∀ flag, r.body = .notice flag →
        recordWords r = [n, word (4096 * 5 + 256 * flagCode flag + r.mergeCount), 0, word (64 * 31 + 2 * 31), 0] ++ times)
  ∧ (∀ (address : BitVec 6) (records : List Record),
      eventFrame address records =
        { kind := 2, address := address, extension := 0
          payload := word records.length :: records.flatMap recordWords })
  ∧ ∀ (address : BitVec 6) (r : Response), r.results.length ≤ 60 →
      ∃ low high : Word,
        responseFrame address r =
          { kind := 3, address := address, extension := 0
            payload :=
              word (256 * r.tag.toNat + (statusCode r.status).toNat) :: word (256 * r.code.toNat + r.results.length)
                :: low :: high :: r.results.map fun w => w.getD 0 }
        ∧ ∀ n, n < 16 →
            low.getLsbD n = decide (r.results[n]? = some none)
            ∧ high.getLsbD n = decide (r.results[n + 16]? = some none)

/-- §7.3, §8.1: the layouts agree with the commands. The words of a command's frame, received on its port, do exactly what the
command does, for every well-formed SAMPLE, ACK, ENUM, RESET and management request of any command code with every operand.
That accepted words can be given as the operand of FAULTY_FRAME is the model's way to run them (notes/assumptions/16 and 17). -/
def Obligations.WordsDoWhatCommandsDo : Prop :=
  (∀ (f : SampleFrame) (s : State), Instr.wellFormed (.sample f) = true →
    exec (.faultyFrame .s { words := frameWords (sampleAsFrame f), closing := .endMarker }) s = exec (.sample f) s)
  ∧ (∀ (a : BitVec 6) (x : BitVec 15) (ws : List Word) (s : State), ws.length ≤ 64 →
      (exec (.faultyFrame .c { words := frameWords ⟨8, a, x, ws⟩, closing := .endMarker }) s = exec (.ack a x ws) s
      ∧ exec (.faultyFrame .c { words := frameWords ⟨10, a, x, ws⟩, closing := .endMarker }) s = exec (.enum a x ws) s
      ∧ exec (.faultyFrame .c { words := frameWords ⟨11, a, x, ws⟩, closing := .endMarker }) s
          = exec (.chainReset a x ws) s))
  ∧ (∀ (code : BitVec 8) (r : Request) (s : State), Instr.wellFormed (.unknownCommand code r) = true →
      exec (.faultyFrame .c { words := frameWords (requestAsFrame code r), closing := .endMarker }) s
        = exec (.unknownCommand code r) s)
  ∧ ∀ (c : Command) (r : Request) (s : State), Instr.wellFormed (requestCommand c r) = true →
      exec (.faultyFrame .c
        { words := frameWords (requestAsFrame (commandCode c) r), closing := .endMarker }) s
        = exec (requestCommand c r) s

/-! ### Whole-machine rules -/

/-- §4.1, §6.1, §6.2, §2.2: only a tick advances the tick count, only a grant to delivery advances the next sequence number, by at
most the 8 records of its frame, and only the end of a commit sweep changes the active bank; POWER_ON alone sets each of
them afresh. -/
def Obligations.OnlyTheirCommandsChangeThem : Prop :=
  ∀ (c : Instr) (s t : State), exec c s = .next t → (∀ p, c ≠ .powerOn p) →
    (c ≠ .tick → t.tickCount = s.tickCount ∧ t.periodInProgress = s.periodInProgress)
    ∧ (c = .tick → s.pins = runningPins → t.tickCount = s.tickCount + 1)
    ∧ (t.nextSequence = s.nextSequence
        ∨ ∃ frame sequences k, t.cTransmission = some (.event frame sequences) ∧ t.forwardCount = 0
            ∧ 1 ≤ k ∧ k ≤ 8 ∧ t.nextSequence = s.nextSequence + BitVec.ofNat 16 k)
    ∧ (c ≠ .commitSweepEnd → t.activeBank = s.activeBank)

/-- R186, R190: every step keeps the address law (address 0 exactly in UNADDRESSED, never 63) and the held part at its power-on
state. -/
def Obligations.StepKeepsAddressLaw : Prop :=
  ∀ s t : State, AddressLaw s ∧ HeldLaw s → step s = .next t → AddressLaw t ∧ HeldLaw t

/-- R88, R154, R169, R142, R146, R156, R159: every step keeps the capacities of the store, the queues and the cache, the distinct tags
of the cache, the bounds of the link counts, transmissions on UP ports only, and no frame or record that
waits for an UP port whose transmitter is idle. -/
def Obligations.StepKeepsCapacities : Prop :=
  ∀ s t : State, CapacityLaw s ∧ CacheLaw s ∧ PortLaw s → step s = .next t → CapacityLaw t ∧ CacheLaw t ∧ PortLaw t

/-- R92, R112, R125: every step keeps the delivery laws: numbered records in front with consecutive numbers ending at next − 1, the
reporter IDLE exactly when none is numbered, the timer running in AWAITING alone, the retry count within its limit. -/
def Obligations.StepKeepsDeliveryLaw : Prop :=
  ∀ s t : State, DeliveryLaw s → step s = .next t → DeliveryLaw t

/-- R1, R2, R4, R9, R79: every step keeps the entries in ascending index with distinct keys, and each entry's own fields sound. -/
def Obligations.StepKeepsBindingLaws : Prop :=
  ∀ s t : State, KeyLaw s ∧ EntryLaw s → step s = .next t → KeyLaw t ∧ EntryLaw t

/-- R3, R6, R24, R40: every step keeps the profiles of both banks well formed, every bound binding naming a non-empty active slot and
tracking within its profile, and during a sweep naming a non-empty shadow slot. -/
def Obligations.StepKeepsProfileLaws : Prop :=
  ∀ s t : State, BankLaw s ∧ ProfileLaw s → step s = .next t → BankLaw t ∧ ProfileLaw t

/-- The state after reset meets every law that the steps keep. -/
def Obligations.ResetMeetsEveryLaw : Prop :=
  AddressLaw State.reset ∧ HeldLaw State.reset ∧ CapacityLaw State.reset ∧ CacheLaw State.reset ∧ PortLaw State.reset
    ∧ DeliveryLaw State.reset ∧ KeyLaw State.reset ∧ EntryLaw State.reset ∧ BankLaw State.reset ∧ ProfileLaw State.reset
end

