-- ==== Sys2Proof/Laws/State.lean ====
section
/-! SUPPORT. The named updates of the state, field by field: what each update writes and what it leaves. -/

namespace Sys2Proof.Machine

/-! ### `setBinding` -/

section

variable (i : Fin 256) (b : Binding) (s : State)

@[simp] theorem setBinding_pins : (setBinding i b s).pins = s.pins := rfl
@[simp] theorem setBinding_address : (setBinding i b s).address = s.address := rfl
@[simp] theorem setBinding_mode : (setBinding i b s).mode = s.mode := rfl
@[simp] theorem setBinding_bindings : (setBinding i b s).bindings = s.bindings.put i b := rfl
@[simp] theorem setBinding_activeBank : (setBinding i b s).activeBank = s.activeBank := rfl
@[simp] theorem setBinding_shadowBank : (setBinding i b s).shadowBank = s.shadowBank := rfl
@[simp] theorem setBinding_sweep : (setBinding i b s).sweep = s.sweep := rfl
@[simp] theorem setBinding_tickCount : (setBinding i b s).tickCount = s.tickCount := rfl
@[simp] theorem setBinding_tickPeriod : (setBinding i b s).tickPeriod = s.tickPeriod := rfl
@[simp] theorem setBinding_periodInProgress : (setBinding i b s).periodInProgress = s.periodInProgress := rfl
@[simp] theorem setBinding_store : (setBinding i b s).store = s.store := rfl
@[simp] theorem setBinding_noticeMask : (setBinding i b s).noticeMask = s.noticeMask := rfl
@[simp] theorem setBinding_owedNotices : (setBinding i b s).owedNotices = s.owedNotices := rfl
@[simp] theorem setBinding_nextSequence : (setBinding i b s).nextSequence = s.nextSequence := rfl
@[simp] theorem setBinding_reporter : (setBinding i b s).reporter = s.reporter := rfl
@[simp] theorem setBinding_ackTimer : (setBinding i b s).ackTimer = s.ackTimer := rfl
@[simp] theorem setBinding_retryCount : (setBinding i b s).retryCount = s.retryCount := rfl
@[simp] theorem setBinding_ackTimeout : (setBinding i b s).ackTimeout = s.ackTimeout := rfl
@[simp] theorem setBinding_retryLimit : (setBinding i b s).retryLimit = s.retryLimit := rfl
@[simp] theorem setBinding_sLink : (setBinding i b s).sLink = s.sLink := rfl
@[simp] theorem setBinding_sTransmission : (setBinding i b s).sTransmission = s.sTransmission := rfl
@[simp] theorem setBinding_cLink : (setBinding i b s).cLink = s.cLink := rfl
@[simp] theorem setBinding_cTransmission : (setBinding i b s).cTransmission = s.cTransmission := rfl
@[simp] theorem setBinding_forwardQueue : (setBinding i b s).forwardQueue = s.forwardQueue := rfl
@[simp] theorem setBinding_returnQueue : (setBinding i b s).returnQueue = s.returnQueue := rfl
@[simp] theorem setBinding_forwardCount : (setBinding i b s).forwardCount = s.forwardCount := rfl
@[simp] theorem setBinding_defaultPolicy : (setBinding i b s).defaultPolicy = s.defaultPolicy := rfl
@[simp] theorem setBinding_responses : (setBinding i b s).responses = s.responses := rfl
@[simp] theorem setBinding_cache : (setBinding i b s).cache = s.cache := rfl
@[simp] theorem setBinding_flags : (setBinding i b s).flags = s.flags := rfl
@[simp] theorem setBinding_pending : (setBinding i b s).pending = s.pending := rfl

end

/-! ### `appendRecord` -/

section

variable (body : Body) (s : State)

@[simp] theorem appendRecord_pins : (appendRecord body s).pins = s.pins := rfl
@[simp] theorem appendRecord_address : (appendRecord body s).address = s.address := rfl
@[simp] theorem appendRecord_mode : (appendRecord body s).mode = s.mode := rfl
@[simp] theorem appendRecord_bindings : (appendRecord body s).bindings = s.bindings := rfl
@[simp] theorem appendRecord_activeBank : (appendRecord body s).activeBank = s.activeBank := rfl
@[simp] theorem appendRecord_shadowBank : (appendRecord body s).shadowBank = s.shadowBank := rfl
@[simp] theorem appendRecord_sweep : (appendRecord body s).sweep = s.sweep := rfl
@[simp] theorem appendRecord_tickCount : (appendRecord body s).tickCount = s.tickCount := rfl
@[simp] theorem appendRecord_tickPeriod : (appendRecord body s).tickPeriod = s.tickPeriod := rfl
@[simp] theorem appendRecord_periodInProgress : (appendRecord body s).periodInProgress = s.periodInProgress := rfl
@[simp] theorem appendRecord_store : (appendRecord body s).store = s.store ++ [newRecord body s] := rfl
@[simp] theorem appendRecord_noticeMask : (appendRecord body s).noticeMask = s.noticeMask := rfl
@[simp] theorem appendRecord_owedNotices : (appendRecord body s).owedNotices = s.owedNotices := rfl
@[simp] theorem appendRecord_nextSequence : (appendRecord body s).nextSequence = s.nextSequence := rfl
@[simp] theorem appendRecord_reporter : (appendRecord body s).reporter = s.reporter := rfl
@[simp] theorem appendRecord_ackTimer : (appendRecord body s).ackTimer = s.ackTimer := rfl
@[simp] theorem appendRecord_retryCount : (appendRecord body s).retryCount = s.retryCount := rfl
@[simp] theorem appendRecord_ackTimeout : (appendRecord body s).ackTimeout = s.ackTimeout := rfl
@[simp] theorem appendRecord_retryLimit : (appendRecord body s).retryLimit = s.retryLimit := rfl
@[simp] theorem appendRecord_sLink : (appendRecord body s).sLink = s.sLink := rfl
@[simp] theorem appendRecord_sTransmission : (appendRecord body s).sTransmission = s.sTransmission := rfl
@[simp] theorem appendRecord_cLink : (appendRecord body s).cLink = s.cLink := rfl
@[simp] theorem appendRecord_cTransmission : (appendRecord body s).cTransmission = s.cTransmission := rfl
@[simp] theorem appendRecord_forwardQueue : (appendRecord body s).forwardQueue = s.forwardQueue := rfl
@[simp] theorem appendRecord_returnQueue : (appendRecord body s).returnQueue = s.returnQueue := rfl
@[simp] theorem appendRecord_forwardCount : (appendRecord body s).forwardCount = s.forwardCount := rfl
@[simp] theorem appendRecord_defaultPolicy : (appendRecord body s).defaultPolicy = s.defaultPolicy := rfl
@[simp] theorem appendRecord_responses : (appendRecord body s).responses = s.responses := rfl
@[simp] theorem appendRecord_cache : (appendRecord body s).cache = s.cache := rfl
@[simp] theorem appendRecord_flags : (appendRecord body s).flags = s.flags := rfl
@[simp] theorem appendRecord_pending : (appendRecord body s).pending = s.pending := rfl

end

/-! ### `advanceTime` -/

section

variable (s : State)

@[simp] theorem advanceTime_pins : (advanceTime s).pins = s.pins := rfl
@[simp] theorem advanceTime_address : (advanceTime s).address = s.address := rfl
@[simp] theorem advanceTime_mode : (advanceTime s).mode = s.mode := rfl
@[simp] theorem advanceTime_bindings : (advanceTime s).bindings = s.bindings := rfl
@[simp] theorem advanceTime_activeBank : (advanceTime s).activeBank = s.activeBank := rfl
@[simp] theorem advanceTime_shadowBank : (advanceTime s).shadowBank = s.shadowBank := rfl
@[simp] theorem advanceTime_sweep : (advanceTime s).sweep = s.sweep := rfl
@[simp] theorem advanceTime_tickCount : (advanceTime s).tickCount = s.tickCount + 1 := rfl
@[simp] theorem advanceTime_tickPeriod : (advanceTime s).tickPeriod = s.tickPeriod := rfl
@[simp] theorem advanceTime_periodInProgress : (advanceTime s).periodInProgress = s.tickPeriod := rfl
@[simp] theorem advanceTime_store : (advanceTime s).store = s.store := rfl
@[simp] theorem advanceTime_noticeMask : (advanceTime s).noticeMask = s.noticeMask := rfl
@[simp] theorem advanceTime_owedNotices : (advanceTime s).owedNotices = s.owedNotices := rfl
@[simp] theorem advanceTime_nextSequence : (advanceTime s).nextSequence = s.nextSequence := rfl
@[simp] theorem advanceTime_reporter : (advanceTime s).reporter = s.reporter := rfl
@[simp] theorem advanceTime_ackTimer : (advanceTime s).ackTimer = s.ackTimer := rfl
@[simp] theorem advanceTime_retryCount : (advanceTime s).retryCount = s.retryCount := rfl
@[simp] theorem advanceTime_ackTimeout : (advanceTime s).ackTimeout = s.ackTimeout := rfl
@[simp] theorem advanceTime_retryLimit : (advanceTime s).retryLimit = s.retryLimit := rfl
@[simp] theorem advanceTime_sLink : (advanceTime s).sLink = s.sLink := rfl
@[simp] theorem advanceTime_sTransmission : (advanceTime s).sTransmission = s.sTransmission := rfl
@[simp] theorem advanceTime_cLink : (advanceTime s).cLink = s.cLink := rfl
@[simp] theorem advanceTime_cTransmission : (advanceTime s).cTransmission = s.cTransmission := rfl
@[simp] theorem advanceTime_forwardQueue : (advanceTime s).forwardQueue = s.forwardQueue := rfl
@[simp] theorem advanceTime_returnQueue : (advanceTime s).returnQueue = s.returnQueue := rfl
@[simp] theorem advanceTime_forwardCount : (advanceTime s).forwardCount = s.forwardCount := rfl
@[simp] theorem advanceTime_defaultPolicy : (advanceTime s).defaultPolicy = s.defaultPolicy := rfl
@[simp] theorem advanceTime_responses : (advanceTime s).responses = s.responses := rfl
@[simp] theorem advanceTime_cache : (advanceTime s).cache = s.cache := rfl
@[simp] theorem advanceTime_flags : (advanceTime s).flags = s.flags := rfl
@[simp] theorem advanceTime_pending : (advanceTime s).pending = s.pending := rfl

end

/-! ### `exchangeBanks` -/

section

variable (s : State)

@[simp] theorem exchangeBanks_pins : (exchangeBanks s).pins = s.pins := rfl
@[simp] theorem exchangeBanks_address : (exchangeBanks s).address = s.address := rfl
@[simp] theorem exchangeBanks_mode : (exchangeBanks s).mode = s.mode := rfl
@[simp] theorem exchangeBanks_bindings : (exchangeBanks s).bindings = s.bindings.mapContents (resettle s) := rfl
@[simp] theorem exchangeBanks_activeBank : (exchangeBanks s).activeBank = s.shadowBank := rfl
@[simp] theorem exchangeBanks_shadowBank : (exchangeBanks s).shadowBank = s.activeBank := rfl
@[simp] theorem exchangeBanks_sweep : (exchangeBanks s).sweep = none := rfl
@[simp] theorem exchangeBanks_tickCount : (exchangeBanks s).tickCount = s.tickCount := rfl
@[simp] theorem exchangeBanks_tickPeriod : (exchangeBanks s).tickPeriod = s.tickPeriod := rfl
@[simp] theorem exchangeBanks_periodInProgress : (exchangeBanks s).periodInProgress = s.periodInProgress := rfl
@[simp] theorem exchangeBanks_store : (exchangeBanks s).store = s.store := rfl
@[simp] theorem exchangeBanks_noticeMask : (exchangeBanks s).noticeMask = s.noticeMask := rfl
@[simp] theorem exchangeBanks_owedNotices : (exchangeBanks s).owedNotices = s.owedNotices := rfl
@[simp] theorem exchangeBanks_nextSequence : (exchangeBanks s).nextSequence = s.nextSequence := rfl
@[simp] theorem exchangeBanks_reporter : (exchangeBanks s).reporter = s.reporter := rfl
@[simp] theorem exchangeBanks_ackTimer : (exchangeBanks s).ackTimer = s.ackTimer := rfl
@[simp] theorem exchangeBanks_retryCount : (exchangeBanks s).retryCount = s.retryCount := rfl
@[simp] theorem exchangeBanks_ackTimeout : (exchangeBanks s).ackTimeout = s.ackTimeout := rfl
@[simp] theorem exchangeBanks_retryLimit : (exchangeBanks s).retryLimit = s.retryLimit := rfl
@[simp] theorem exchangeBanks_sLink : (exchangeBanks s).sLink = s.sLink := rfl
@[simp] theorem exchangeBanks_sTransmission : (exchangeBanks s).sTransmission = s.sTransmission := rfl
@[simp] theorem exchangeBanks_cLink : (exchangeBanks s).cLink = s.cLink := rfl
@[simp] theorem exchangeBanks_cTransmission : (exchangeBanks s).cTransmission = s.cTransmission := rfl
@[simp] theorem exchangeBanks_forwardQueue : (exchangeBanks s).forwardQueue = s.forwardQueue := rfl
@[simp] theorem exchangeBanks_returnQueue : (exchangeBanks s).returnQueue = s.returnQueue := rfl
@[simp] theorem exchangeBanks_forwardCount : (exchangeBanks s).forwardCount = s.forwardCount := rfl
@[simp] theorem exchangeBanks_defaultPolicy : (exchangeBanks s).defaultPolicy = s.defaultPolicy := rfl
@[simp] theorem exchangeBanks_responses : (exchangeBanks s).responses = s.responses := rfl
@[simp] theorem exchangeBanks_cache : (exchangeBanks s).cache = s.cache := rfl
@[simp] theorem exchangeBanks_flags : (exchangeBanks s).flags = s.flags := rfl
@[simp] theorem exchangeBanks_pending : (exchangeBanks s).pending = s.pending := rfl

end

/-! ### `setLink` -/

section

variable (port : Port) (l : Link) (s : State)

@[simp] theorem setLink_pins : (setLink port l s).pins = s.pins := by cases port <;> rfl
@[simp] theorem setLink_address : (setLink port l s).address = s.address := by cases port <;> rfl
@[simp] theorem setLink_mode : (setLink port l s).mode = s.mode := by cases port <;> rfl
@[simp] theorem setLink_bindings : (setLink port l s).bindings = s.bindings := by cases port <;> rfl
@[simp] theorem setLink_activeBank : (setLink port l s).activeBank = s.activeBank := by cases port <;> rfl
@[simp] theorem setLink_shadowBank : (setLink port l s).shadowBank = s.shadowBank := by cases port <;> rfl
@[simp] theorem setLink_sweep : (setLink port l s).sweep = s.sweep := by cases port <;> rfl
@[simp] theorem setLink_tickCount : (setLink port l s).tickCount = s.tickCount := by cases port <;> rfl
@[simp] theorem setLink_tickPeriod : (setLink port l s).tickPeriod = s.tickPeriod := by cases port <;> rfl
@[simp] theorem setLink_periodInProgress : (setLink port l s).periodInProgress = s.periodInProgress := by cases port <;> rfl
@[simp] theorem setLink_store : (setLink port l s).store = s.store := by cases port <;> rfl
@[simp] theorem setLink_noticeMask : (setLink port l s).noticeMask = s.noticeMask := by cases port <;> rfl
@[simp] theorem setLink_owedNotices : (setLink port l s).owedNotices = s.owedNotices := by cases port <;> rfl
@[simp] theorem setLink_nextSequence : (setLink port l s).nextSequence = s.nextSequence := by cases port <;> rfl
@[simp] theorem setLink_reporter : (setLink port l s).reporter = s.reporter := by cases port <;> rfl
@[simp] theorem setLink_ackTimer : (setLink port l s).ackTimer = s.ackTimer := by cases port <;> rfl
@[simp] theorem setLink_retryCount : (setLink port l s).retryCount = s.retryCount := by cases port <;> rfl
@[simp] theorem setLink_ackTimeout : (setLink port l s).ackTimeout = s.ackTimeout := by cases port <;> rfl
@[simp] theorem setLink_retryLimit : (setLink port l s).retryLimit = s.retryLimit := by cases port <;> rfl
@[simp] theorem setLink_sLink : (setLink port l s).sLink = match port with | .s => l | .c => s.sLink := by cases port <;> rfl
@[simp] theorem setLink_sTransmission : (setLink port l s).sTransmission = s.sTransmission := by cases port <;> rfl
@[simp] theorem setLink_cLink : (setLink port l s).cLink = match port with | .s => s.cLink | .c => l := by cases port <;> rfl
@[simp] theorem setLink_cTransmission : (setLink port l s).cTransmission = s.cTransmission := by cases port <;> rfl
@[simp] theorem setLink_forwardQueue : (setLink port l s).forwardQueue = s.forwardQueue := by cases port <;> rfl
@[simp] theorem setLink_returnQueue : (setLink port l s).returnQueue = s.returnQueue := by cases port <;> rfl
@[simp] theorem setLink_forwardCount : (setLink port l s).forwardCount = s.forwardCount := by cases port <;> rfl
@[simp] theorem setLink_defaultPolicy : (setLink port l s).defaultPolicy = s.defaultPolicy := by cases port <;> rfl
@[simp] theorem setLink_responses : (setLink port l s).responses = s.responses := by cases port <;> rfl
@[simp] theorem setLink_cache : (setLink port l s).cache = s.cache := by cases port <;> rfl
@[simp] theorem setLink_flags : (setLink port l s).flags = s.flags := by cases port <;> rfl
@[simp] theorem setLink_pending : (setLink port l s).pending = s.pending := by cases port <;> rfl

end

/-! ### Records and bindings -/

section

variable (body : Body) (s : State) (b : Binding) (reason : Reason)

@[simp] theorem newRecord_body : (newRecord body s).body = body := rfl
@[simp] theorem newRecord_delivery : (newRecord body s).delivery = .unsent := rfl
@[simp] theorem newRecord_mergeCount : (newRecord body s).mergeCount = 1 := rfl
@[simp] theorem newRecord_timestamp : (newRecord body s).timestamp = s.tickCount := rfl
@[simp] theorem newRecord_sequence : recordSequence (newRecord body s) = none := rfl
@[simp] theorem unsettle_track : (unsettle reason b).track = .unsettled := rfl
@[simp] theorem unsettle_reason : (unsettle reason b).reason = reason := rfl
@[simp] theorem unsettle_countdown : (unsettle reason b).countdown = b.limit := rfl
@[simp] theorem unsettle_profile : (unsettle reason b).profile = b.profile := rfl
@[simp] theorem unsettle_source : (unsettle reason b).source = b.source := rfl
@[simp] theorem unsettle_channel : (unsettle reason b).channel = b.channel := rfl
@[simp] theorem resetDynamic_profile : (resetDynamic b).profile = b.profile := rfl
@[simp] theorem resetDynamic_source : (resetDynamic b).source = b.source := rfl
@[simp] theorem resetDynamic_channel : (resetDynamic b).channel = b.channel := rfl
@[simp] theorem resetDynamic_track : (resetDynamic b).track = .unsettled := rfl
@[simp] theorem resetDynamic_countdown : (resetDynamic b).countdown = b.limit := rfl
@[simp] theorem expiredBinding_profile : (expiredBinding b).profile = b.profile := rfl
@[simp] theorem expiredBinding_source : (expiredBinding b).source = b.source := rfl
@[simp] theorem expiredBinding_channel : (expiredBinding b).channel = b.channel := rfl
@[simp] theorem clearLatches_track : (clearLatches b).track = b.track := rfl

end

/-! ### The state after power-on -/

@[simp] theorem powerOn_pins (pins : Pins) (q : List Instr) : (State.powerOn pins q).pins = pins := rfl
@[simp] theorem powerOn_pending (pins : Pins) (q : List Instr) : (State.powerOn pins q).pending = q := rfl
theorem reset_pins : State.reset.pins = runningPins := rfl
theorem reset_pending : State.reset.pending = [] := rfl

end Sys2Proof.Machine
end

