-- ==== Sys2Proof/Laws/Tables.lean ====
section
/-! SUPPORT. Sparse tables: what reading a slot gives after each update, and that every update keeps the canonical form. -/

namespace Sys2Proof.Machine

variable {n : Nat} {α : Type}

/-! ### Reading -/

@[simp] theorem Table.lookup_nil (i : Fin n) : Table.lookup ([] : Table n α) i = none := rfl

@[simp] theorem Table.lookup_put_self (t : Table n α) (i : Fin n) (a : α) : (t.put i a).lookup i = some a := by
  induction t with
  | nil => simp [Table.put, Table.lookup]
  | cons e rest ih =>
    simp only [Table.put]
    split
    · simp [Table.lookup]
    · split
      · simp [Table.lookup]
      · simp [Table.lookup, *]

theorem Table.lookup_put_of_ne (t : Table n α) {i j : Fin n} (a : α) (h : j ≠ i) :
    (t.put i a).lookup j = t.lookup j := by
  induction t with
  | nil => simp [Table.put, Table.lookup, h.symm]
  | cons e rest ih =>
    simp only [Table.put]
    split
    · simp [Table.lookup, h.symm]
    · split
      · rename_i heq
        simp [Table.lookup, h.symm, heq]
      · simp only [Table.lookup, ih]

@[simp] theorem Table.lookup_remove_self (t : Table n α) (i : Fin n) : (t.remove i).lookup i = none := by
  induction t with
  | nil => rfl
  | cons e rest ih =>
    simp only [Table.remove, List.filter_cons] at ih ⊢
    split
    · rename_i h
      have h' : e.1 ≠ i := by simpa using h
      simp [Table.lookup, h', ih]
    · exact ih

theorem Table.lookup_remove_of_ne (t : Table n α) {i j : Fin n} (h : j ≠ i) :
    (t.remove i).lookup j = t.lookup j := by
  induction t with
  | nil => rfl
  | cons e rest ih =>
    simp only [Table.remove, List.filter_cons] at ih ⊢
    split
    · simp only [Table.lookup, ih]
    · rename_i hne
      have h' : e.1 = i := by simpa using hne
      simp [Table.lookup, h', h.symm, ih]

theorem Table.lookup_mapContents (t : Table n α) (f : α → α) (i : Fin n) :
    (t.mapContents f).lookup i = (t.lookup i).map f := by
  induction t with
  | nil => rfl
  | cons e rest ih =>
    simp only [Table.mapContents, List.map_cons, Table.lookup] at ih ⊢
    split
    · simp
    · exact ih

theorem Table.mem_of_lookup {t : Table n α} {i : Fin n} {a : α} (h : t.lookup i = some a) : (i, a) ∈ t := by
  induction t with
  | nil => cases h
  | cons e rest ih =>
    simp only [Table.lookup] at h
    split at h
    · rename_i hi
      cases h
      subst hi
      exact List.mem_cons_self
    · exact List.mem_cons_of_mem _ (ih h)

theorem Table.lookup_of_mem {t : Table n α} (hwf : t.wf) {i : Fin n} {a : α} (h : (i, a) ∈ t) :
    t.lookup i = some a := by
  induction t with
  | nil => cases h
  | cons e rest ih =>
    rw [Table.wf, List.map_cons, List.pairwise_cons] at hwf
    simp only [Table.lookup]
    rcases List.mem_cons.mp h with h | h
    · subst h; simp
    · have : e.1 < i := hwf.1 i (List.mem_map_of_mem (f := Prod.fst) h)
      simp [this.ne, ih hwf.2 h]

/-! ### The canonical form -/

theorem Table.wf_nil : Table.wf ([] : Table n α) := List.Pairwise.nil

theorem Table.mem_put {t : Table n α} {i : Fin n} {a : α} {e : Fin n × α} (h : e ∈ t.put i a) :
    e = (i, a) ∨ e ∈ t := by
  induction t with
  | nil => simp_all [Table.put]
  | cons x rest ih =>
    simp only [Table.put] at h
    split at h
    · simpa using h
    · split at h
      · rcases List.mem_cons.mp h with h | h
        · exact .inl h
        · exact .inr (List.mem_cons_of_mem _ h)
      · rcases List.mem_cons.mp h with h | h
        · exact .inr (h ▸ List.mem_cons_self)
        · exact (ih h).imp_right (List.mem_cons_of_mem _)

theorem Table.wf_put {t : Table n α} (hwf : t.wf) (i : Fin n) (a : α) : (t.put i a).wf := by
  induction t with
  | nil => simp [Table.put, Table.wf]
  | cons e rest ih =>
    rw [Table.wf, List.map_cons, List.pairwise_cons] at hwf
    simp only [Table.put]
    split
    · rename_i hlt
      simp only [Table.wf, List.map_cons, List.pairwise_cons]
      refine ⟨?_, hwf.1, hwf.2⟩
      intro j hj
      rcases List.mem_cons.mp hj with h | h
      · exact h ▸ hlt
      · exact hlt.trans (hwf.1 j h)
    · split
      · rename_i heq
        subst heq
        simp only [Table.wf, List.map_cons, List.pairwise_cons]
        exact hwf
      · rename_i hge hne
        simp only [Table.wf, List.map_cons, List.pairwise_cons]
        refine ⟨?_, ih hwf.2⟩
        intro j hj
        obtain ⟨x, hx, rfl⟩ := List.mem_map.mp hj
        rcases Table.mem_put hx with h | h
        · subst h
          exact lt_of_le_of_ne (not_lt.mp hge) hne
        · exact hwf.1 _ (List.mem_map_of_mem h)

theorem Table.wf_remove {t : Table n α} (hwf : t.wf) (i : Fin n) : (t.remove i).wf :=
  hwf.sublist (List.filter_sublist.map Prod.fst)

theorem Table.wf_mapContents {t : Table n α} (hwf : t.wf) (f : α → α) : (t.mapContents f).wf := by
  simpa [Table.wf, Table.mapContents, Function.comp_def] using hwf

theorem Table.mapContents_indices (t : Table n α) (f : α → α) :
    (t.mapContents f).map Prod.fst = t.map Prod.fst := by simp [Table.mapContents, Function.comp_def]

end Sys2Proof.Machine
end

