-- ==== Sys2Proof/Laws/Ops.lean ====
section
/-! SUPPORT. The shared operations: for each, once, what it writes and what it leaves (`_writes` and the field lemmas),
and the cases of what it can do. -/

namespace Sys2Proof.Machine

/-! ### Setting a flag (R105, R178) -/

theorem offerNotice_cases (f : Flag) (s : State) :
    (s.store.length < 64 ∧ offerNotice f s = { s with store := s.store ++ [newRecord (.notice f) s] })
    ∨ (64 ≤ s.store.length ∧ offerNotice f s = { s with owedNotices := withFlag s.owedNotices f }) := by
  unfold offerNotice appendRecord
  split
  · exact .inl ⟨by assumption, rfl⟩
  · exact .inr ⟨Nat.not_lt.mp (by assumption), rfl⟩

/-- Every state that setting a flag can leave. -/
theorem raiseFlag_cases (f : Flag) (s : State) :
    raiseFlag f s = s
    ∨ raiseFlag f s = { s with flags := withFlag s.flags f }
    ∨ (s.store.length < 64
        ∧ raiseFlag f s = { s with flags := withFlag s.flags f, store := s.store ++ [newRecord (.notice f) s] })
    ∨ (64 ≤ s.store.length
        ∧ raiseFlag f s = { s with flags := withFlag s.flags f, owedNotices := withFlag s.owedNotices f }) := by
  unfold raiseFlag
  split
  · exact .inl rfl
  · split
    · rcases offerNotice_cases f { s with flags := withFlag s.flags f } with h | h
      · exact .inr (.inr (.inl h))
      · exact .inr (.inr (.inr h))
    · exact .inr (.inl rfl)

theorem raiseFlag_writes (f : Flag) (s : State) :
    raiseFlag f s =
      { s with
        flags := (raiseFlag f s).flags
        store := (raiseFlag f s).store
        owedNotices := (raiseFlag f s).owedNotices } := by
  rcases raiseFlag_cases f s with h | h | ⟨-, h⟩ | ⟨-, h⟩ <;> rw [h]

section

variable (f : Flag) (s : State)

@[simp] theorem raiseFlag_pins : (raiseFlag f s).pins = s.pins := by
  rw [raiseFlag_writes]
@[simp] theorem raiseFlag_address : (raiseFlag f s).address = s.address := by
  rw [raiseFlag_writes]
@[simp] theorem raiseFlag_mode : (raiseFlag f s).mode = s.mode := by
  rw [raiseFlag_writes]
@[simp] theorem raiseFlag_bindings : (raiseFlag f s).bindings = s.bindings := by
  rw [raiseFlag_writes]
@[simp] theorem raiseFlag_activeBank : (raiseFlag f s).activeBank = s.activeBank := by
  rw [raiseFlag_writes]
@[simp] theorem raiseFlag_shadowBank : (raiseFlag f s).shadowBank = s.shadowBank := by
  rw [raiseFlag_writes]
@[simp] theorem raiseFlag_sweep : (raiseFlag f s).sweep = s.sweep := by
  rw [raiseFlag_writes]
@[simp] theorem raiseFlag_tickCount : (raiseFlag f s).tickCount = s.tickCount := by
  rw [raiseFlag_writes]
@[simp] theorem raiseFlag_tickPeriod : (raiseFlag f s).tickPeriod = s.tickPeriod := by
  rw [raiseFlag_writes]
@[simp] theorem raiseFlag_periodInProgress : (raiseFlag f s).periodInProgress = s.periodInProgress := by
  rw [raiseFlag_writes]
@[simp] theorem raiseFlag_noticeMask : (raiseFlag f s).noticeMask = s.noticeMask := by
  rw [raiseFlag_writes]
@[simp] theorem raiseFlag_nextSequence : (raiseFlag f s).nextSequence = s.nextSequence := by
  rw [raiseFlag_writes]
@[simp] theorem raiseFlag_reporter : (raiseFlag f s).reporter = s.reporter := by
  rw [raiseFlag_writes]
@[simp] theorem raiseFlag_ackTimer : (raiseFlag f s).ackTimer = s.ackTimer := by
  rw [raiseFlag_writes]
@[simp] theorem raiseFlag_retryCount : (raiseFlag f s).retryCount = s.retryCount := by
  rw [raiseFlag_writes]
@[simp] theorem raiseFlag_ackTimeout : (raiseFlag f s).ackTimeout = s.ackTimeout := by
  rw [raiseFlag_writes]
@[simp] theorem raiseFlag_retryLimit : (raiseFlag f s).retryLimit = s.retryLimit := by
  rw [raiseFlag_writes]
@[simp] theorem raiseFlag_sLink : (raiseFlag f s).sLink = s.sLink := by
  rw [raiseFlag_writes]
@[simp] theorem raiseFlag_sTransmission : (raiseFlag f s).sTransmission = s.sTransmission := by
  rw [raiseFlag_writes]
@[simp] theorem raiseFlag_cLink : (raiseFlag f s).cLink = s.cLink := by
  rw [raiseFlag_writes]
@[simp] theorem raiseFlag_cTransmission : (raiseFlag f s).cTransmission = s.cTransmission := by
  rw [raiseFlag_writes]
@[simp] theorem raiseFlag_forwardQueue : (raiseFlag f s).forwardQueue = s.forwardQueue := by
  rw [raiseFlag_writes]
@[simp] theorem raiseFlag_returnQueue : (raiseFlag f s).returnQueue = s.returnQueue := by
  rw [raiseFlag_writes]
@[simp] theorem raiseFlag_forwardCount : (raiseFlag f s).forwardCount = s.forwardCount := by
  rw [raiseFlag_writes]
@[simp] theorem raiseFlag_defaultPolicy : (raiseFlag f s).defaultPolicy = s.defaultPolicy := by
  rw [raiseFlag_writes]
@[simp] theorem raiseFlag_responses : (raiseFlag f s).responses = s.responses := by
  rw [raiseFlag_writes]
@[simp] theorem raiseFlag_cache : (raiseFlag f s).cache = s.cache := by
  rw [raiseFlag_writes]
@[simp] theorem raiseFlag_pending : (raiseFlag f s).pending = s.pending := by
  rw [raiseFlag_writes]

end

/-- Setting a flag keeps the store, or adds one UNSENT NOTICE record behind it while there is room. -/
theorem raiseFlag_store (f : Flag) (s : State) :
    (raiseFlag f s).store = s.store
    ∨ (s.store.length < 64 ∧ (raiseFlag f s).store = s.store ++ [newRecord (.notice f) s]) := by
  rcases raiseFlag_cases f s with h | h | ⟨hs, h⟩ | ⟨-, h⟩ <;> rw [h]
  · exact .inl rfl
  · exact .inl rfl
  · exact .inr ⟨hs, rfl⟩
  · exact .inl rfl

theorem raiseFlag_capacity {s : State} (f : Flag) (h : s.store.length ≤ 64) : (raiseFlag f s).store.length ≤ 64 := by
  rcases raiseFlag_store f s with h' | ⟨hs, h'⟩ <;> rw [h']
  · exact h
  · simp; omega

@[simp] theorem raiseFlag_numberedCount (f : Flag) (s : State) :
    numberedCount (raiseFlag f s).store = numberedCount s.store := by
  rcases raiseFlag_store f s with h | ⟨-, h⟩ <;> simp [h, numberedCount]

/-! ### Offering a record (R94 to R98) -/

theorem failedInsertion_writes (i : Fin 256) (s : State) :
    failedInsertion i s =
      { s with
        bindings := (failedInsertion i s).bindings
        flags := (failedInsertion i s).flags
        store := (failedInsertion i s).store
        owedNotices := (failedInsertion i s).owedNotices } := by
  unfold failedInsertion
  split
  · rw [raiseFlag_writes]
    rfl
  · rw [raiseFlag_writes]

theorem offerRecord_writes (body : Body) (s : State) :
    offerRecord body s =
      { s with
        bindings := (offerRecord body s).bindings
        flags := (offerRecord body s).flags
        store := (offerRecord body s).store
        owedNotices := (offerRecord body s).owedNotices } := by
  unfold offerRecord
  split
  · rfl
  · split
    · split
      · rfl
      · rw [failedInsertion_writes]
    · rw [failedInsertion_writes]
    · rw [failedInsertion_writes]
    · unfold offerNotice appendRecord
      split <;> rfl

section

variable (body : Body) (s : State)

@[simp] theorem offerRecord_pins : (offerRecord body s).pins = s.pins := by
  rw [offerRecord_writes]
@[simp] theorem offerRecord_address : (offerRecord body s).address = s.address := by
  rw [offerRecord_writes]
@[simp] theorem offerRecord_mode : (offerRecord body s).mode = s.mode := by
  rw [offerRecord_writes]
@[simp] theorem offerRecord_activeBank : (offerRecord body s).activeBank = s.activeBank := by
  rw [offerRecord_writes]
@[simp] theorem offerRecord_shadowBank : (offerRecord body s).shadowBank = s.shadowBank := by
  rw [offerRecord_writes]
@[simp] theorem offerRecord_sweep : (offerRecord body s).sweep = s.sweep := by
  rw [offerRecord_writes]
@[simp] theorem offerRecord_tickCount : (offerRecord body s).tickCount = s.tickCount := by
  rw [offerRecord_writes]
@[simp] theorem offerRecord_tickPeriod : (offerRecord body s).tickPeriod = s.tickPeriod := by
  rw [offerRecord_writes]
@[simp] theorem offerRecord_periodInProgress : (offerRecord body s).periodInProgress = s.periodInProgress := by
  rw [offerRecord_writes]
@[simp] theorem offerRecord_noticeMask : (offerRecord body s).noticeMask = s.noticeMask := by
  rw [offerRecord_writes]
@[simp] theorem offerRecord_nextSequence : (offerRecord body s).nextSequence = s.nextSequence := by
  rw [offerRecord_writes]
@[simp] theorem offerRecord_reporter : (offerRecord body s).reporter = s.reporter := by
  rw [offerRecord_writes]
@[simp] theorem offerRecord_ackTimer : (offerRecord body s).ackTimer = s.ackTimer := by
  rw [offerRecord_writes]
@[simp] theorem offerRecord_retryCount : (offerRecord body s).retryCount = s.retryCount := by
  rw [offerRecord_writes]
@[simp] theorem offerRecord_ackTimeout : (offerRecord body s).ackTimeout = s.ackTimeout := by
  rw [offerRecord_writes]
@[simp] theorem offerRecord_retryLimit : (offerRecord body s).retryLimit = s.retryLimit := by
  rw [offerRecord_writes]
@[simp] theorem offerRecord_sLink : (offerRecord body s).sLink = s.sLink := by
  rw [offerRecord_writes]
@[simp] theorem offerRecord_sTransmission : (offerRecord body s).sTransmission = s.sTransmission := by
  rw [offerRecord_writes]
@[simp] theorem offerRecord_cLink : (offerRecord body s).cLink = s.cLink := by
  rw [offerRecord_writes]
@[simp] theorem offerRecord_cTransmission : (offerRecord body s).cTransmission = s.cTransmission := by
  rw [offerRecord_writes]
@[simp] theorem offerRecord_forwardQueue : (offerRecord body s).forwardQueue = s.forwardQueue := by
  rw [offerRecord_writes]
@[simp] theorem offerRecord_returnQueue : (offerRecord body s).returnQueue = s.returnQueue := by
  rw [offerRecord_writes]
@[simp] theorem offerRecord_forwardCount : (offerRecord body s).forwardCount = s.forwardCount := by
  rw [offerRecord_writes]
@[simp] theorem offerRecord_defaultPolicy : (offerRecord body s).defaultPolicy = s.defaultPolicy := by
  rw [offerRecord_writes]
@[simp] theorem offerRecord_responses : (offerRecord body s).responses = s.responses := by
  rw [offerRecord_writes]
@[simp] theorem offerRecord_cache : (offerRecord body s).cache = s.cache := by
  rw [offerRecord_writes]
@[simp] theorem offerRecord_pending : (offerRecord body s).pending = s.pending := by
  rw [offerRecord_writes]

end

theorem offerRecord_of_room {s : State} (body : Body) (h : s.store.length < 64) :
    offerRecord body s = { s with store := s.store ++ [newRecord body s] } := by
  unfold offerRecord
  rw [if_pos h]
  rfl

/-! ### The forward and return queues (R154 to R156) -/

theorem placeForward_of_room {s : State} (f : Frame) (h : s.forwardQueue.length < 8) :
    placeForward f s = { s with forwardQueue := s.forwardQueue ++ [f] } := by
  unfold placeForward
  rw [if_pos h]

theorem placeForward_of_full {s : State} (f : Frame) (h : 8 ≤ s.forwardQueue.length) : placeForward f s = raiseFlag .fwdLossC s := by
  unfold placeForward
  rw [if_neg (by simpa using h)]

theorem placeForward_writes (f : Frame) (s : State) :
    placeForward f s =
      { s with
        forwardQueue := (placeForward f s).forwardQueue
        flags := (placeForward f s).flags
        store := (placeForward f s).store
        owedNotices := (placeForward f s).owedNotices } := by
  unfold placeForward
  split
  · rfl
  · rw [raiseFlag_writes]

section

variable (f : Frame) (s : State)

@[simp] theorem placeForward_pins : (placeForward f s).pins = s.pins := by
  rw [placeForward_writes]
@[simp] theorem placeForward_address : (placeForward f s).address = s.address := by
  rw [placeForward_writes]
@[simp] theorem placeForward_mode : (placeForward f s).mode = s.mode := by
  rw [placeForward_writes]
@[simp] theorem placeForward_bindings : (placeForward f s).bindings = s.bindings := by
  rw [placeForward_writes]
@[simp] theorem placeForward_activeBank : (placeForward f s).activeBank = s.activeBank := by
  rw [placeForward_writes]
@[simp] theorem placeForward_shadowBank : (placeForward f s).shadowBank = s.shadowBank := by
  rw [placeForward_writes]
@[simp] theorem placeForward_sweep : (placeForward f s).sweep = s.sweep := by
  rw [placeForward_writes]
@[simp] theorem placeForward_tickCount : (placeForward f s).tickCount = s.tickCount := by
  rw [placeForward_writes]
@[simp] theorem placeForward_tickPeriod : (placeForward f s).tickPeriod = s.tickPeriod := by
  rw [placeForward_writes]
@[simp] theorem placeForward_periodInProgress : (placeForward f s).periodInProgress = s.periodInProgress := by
  rw [placeForward_writes]
@[simp] theorem placeForward_noticeMask : (placeForward f s).noticeMask = s.noticeMask := by
  rw [placeForward_writes]
@[simp] theorem placeForward_nextSequence : (placeForward f s).nextSequence = s.nextSequence := by
  rw [placeForward_writes]
@[simp] theorem placeForward_reporter : (placeForward f s).reporter = s.reporter := by
  rw [placeForward_writes]
@[simp] theorem placeForward_ackTimer : (placeForward f s).ackTimer = s.ackTimer := by
  rw [placeForward_writes]
@[simp] theorem placeForward_retryCount : (placeForward f s).retryCount = s.retryCount := by
  rw [placeForward_writes]
@[simp] theorem placeForward_ackTimeout : (placeForward f s).ackTimeout = s.ackTimeout := by
  rw [placeForward_writes]
@[simp] theorem placeForward_retryLimit : (placeForward f s).retryLimit = s.retryLimit := by
  rw [placeForward_writes]
@[simp] theorem placeForward_sLink : (placeForward f s).sLink = s.sLink := by
  rw [placeForward_writes]
@[simp] theorem placeForward_sTransmission : (placeForward f s).sTransmission = s.sTransmission := by
  rw [placeForward_writes]
@[simp] theorem placeForward_cLink : (placeForward f s).cLink = s.cLink := by
  rw [placeForward_writes]
@[simp] theorem placeForward_cTransmission : (placeForward f s).cTransmission = s.cTransmission := by
  rw [placeForward_writes]
@[simp] theorem placeForward_returnQueue : (placeForward f s).returnQueue = s.returnQueue := by
  rw [placeForward_writes]
@[simp] theorem placeForward_forwardCount : (placeForward f s).forwardCount = s.forwardCount := by
  rw [placeForward_writes]
@[simp] theorem placeForward_defaultPolicy : (placeForward f s).defaultPolicy = s.defaultPolicy := by
  rw [placeForward_writes]
@[simp] theorem placeForward_responses : (placeForward f s).responses = s.responses := by
  rw [placeForward_writes]
@[simp] theorem placeForward_cache : (placeForward f s).cache = s.cache := by
  rw [placeForward_writes]
@[simp] theorem placeForward_pending : (placeForward f s).pending = s.pending := by
  rw [placeForward_writes]

end

/-- The S transmitter starts nothing where the S port is not UP, the transmitter is busy, or no frame waits. -/
theorem startSTransmission_of_none {s : State} (h : (∀ n a, s.sLink ≠ .up n a) ∨ s.sTransmission ≠ none ∨ s.returnQueue = []) :
    startSTransmission s = s := by
  unfold startSTransmission
  split
  · rename_i n a f rest h1 h2 h3
    rcases h with h | h | h
    · exact absurd h1 (h n a)
    · exact absurd h2 h
    · rw [h3] at h; cases h
  · rfl

/-- On an UP port with the transmitter idle, the oldest frame that waits is taken. -/
theorem startSTransmission_of_frame {s : State} {n : Nat} {a : Bool} {f : Frame} {rest : List Frame} (h1 : s.sLink = .up n a)
    (h2 : s.sTransmission = none) (h3 : s.returnQueue = f :: rest) :
    startSTransmission s = { s with sTransmission := some f, returnQueue := rest } := by
  simp [startSTransmission, h1, h2, h3]

theorem startSTransmission_writes (s : State) :
    startSTransmission s =
      { s with
        sTransmission := (startSTransmission s).sTransmission
        returnQueue := (startSTransmission s).returnQueue } := by
  unfold startSTransmission
  split <;> rfl

section

variable (s : State)

@[simp] theorem startSTransmission_pins : (startSTransmission s).pins = s.pins := by
  rw [startSTransmission_writes]
@[simp] theorem startSTransmission_address : (startSTransmission s).address = s.address := by
  rw [startSTransmission_writes]
@[simp] theorem startSTransmission_mode : (startSTransmission s).mode = s.mode := by
  rw [startSTransmission_writes]
@[simp] theorem startSTransmission_bindings : (startSTransmission s).bindings = s.bindings := by
  rw [startSTransmission_writes]
@[simp] theorem startSTransmission_activeBank : (startSTransmission s).activeBank = s.activeBank := by
  rw [startSTransmission_writes]
@[simp] theorem startSTransmission_shadowBank : (startSTransmission s).shadowBank = s.shadowBank := by
  rw [startSTransmission_writes]
@[simp] theorem startSTransmission_sweep : (startSTransmission s).sweep = s.sweep := by
  rw [startSTransmission_writes]
@[simp] theorem startSTransmission_tickCount : (startSTransmission s).tickCount = s.tickCount := by
  rw [startSTransmission_writes]
@[simp] theorem startSTransmission_tickPeriod : (startSTransmission s).tickPeriod = s.tickPeriod := by
  rw [startSTransmission_writes]
@[simp] theorem startSTransmission_periodInProgress : (startSTransmission s).periodInProgress = s.periodInProgress := by
  rw [startSTransmission_writes]
@[simp] theorem startSTransmission_store : (startSTransmission s).store = s.store := by
  rw [startSTransmission_writes]
@[simp] theorem startSTransmission_noticeMask : (startSTransmission s).noticeMask = s.noticeMask := by
  rw [startSTransmission_writes]
@[simp] theorem startSTransmission_owedNotices : (startSTransmission s).owedNotices = s.owedNotices := by
  rw [startSTransmission_writes]
@[simp] theorem startSTransmission_nextSequence : (startSTransmission s).nextSequence = s.nextSequence := by
  rw [startSTransmission_writes]
@[simp] theorem startSTransmission_reporter : (startSTransmission s).reporter = s.reporter := by
  rw [startSTransmission_writes]
@[simp] theorem startSTransmission_ackTimer : (startSTransmission s).ackTimer = s.ackTimer := by
  rw [startSTransmission_writes]
@[simp] theorem startSTransmission_retryCount : (startSTransmission s).retryCount = s.retryCount := by
  rw [startSTransmission_writes]
@[simp] theorem startSTransmission_ackTimeout : (startSTransmission s).ackTimeout = s.ackTimeout := by
  rw [startSTransmission_writes]
@[simp] theorem startSTransmission_retryLimit : (startSTransmission s).retryLimit = s.retryLimit := by
  rw [startSTransmission_writes]
@[simp] theorem startSTransmission_sLink : (startSTransmission s).sLink = s.sLink := by
  rw [startSTransmission_writes]
@[simp] theorem startSTransmission_cLink : (startSTransmission s).cLink = s.cLink := by
  rw [startSTransmission_writes]
@[simp] theorem startSTransmission_cTransmission : (startSTransmission s).cTransmission = s.cTransmission := by
  rw [startSTransmission_writes]
@[simp] theorem startSTransmission_forwardQueue : (startSTransmission s).forwardQueue = s.forwardQueue := by
  rw [startSTransmission_writes]
@[simp] theorem startSTransmission_forwardCount : (startSTransmission s).forwardCount = s.forwardCount := by
  rw [startSTransmission_writes]
@[simp] theorem startSTransmission_defaultPolicy : (startSTransmission s).defaultPolicy = s.defaultPolicy := by
  rw [startSTransmission_writes]
@[simp] theorem startSTransmission_responses : (startSTransmission s).responses = s.responses := by
  rw [startSTransmission_writes]
@[simp] theorem startSTransmission_cache : (startSTransmission s).cache = s.cache := by
  rw [startSTransmission_writes]
@[simp] theorem startSTransmission_flags : (startSTransmission s).flags = s.flags := by
  rw [startSTransmission_writes]
@[simp] theorem startSTransmission_pending : (startSTransmission s).pending = s.pending := by
  rw [startSTransmission_writes]

end

theorem placeReturn_of_room {s : State} (f : Frame) (h : s.returnQueue.length < 8) :
    placeReturn f s = startSTransmission { s with returnQueue := s.returnQueue ++ [f] } := by
  unfold placeReturn
  rw [if_pos h]

theorem placeReturn_of_full {s : State} (f : Frame) (h : 8 ≤ s.returnQueue.length) : placeReturn f s = raiseFlag .fwdLossS s := by
  unfold placeReturn
  rw [if_neg (by simpa using h)]

theorem placeReturn_writes (f : Frame) (s : State) :
    placeReturn f s =
      { s with
        sTransmission := (placeReturn f s).sTransmission
        returnQueue := (placeReturn f s).returnQueue
        flags := (placeReturn f s).flags
        store := (placeReturn f s).store
        owedNotices := (placeReturn f s).owedNotices } := by
  unfold placeReturn
  split
  · rw [startSTransmission_writes]
  · rw [raiseFlag_writes]

section

variable (f : Frame) (s : State)

@[simp] theorem placeReturn_pins : (placeReturn f s).pins = s.pins := by
  rw [placeReturn_writes]
@[simp] theorem placeReturn_address : (placeReturn f s).address = s.address := by
  rw [placeReturn_writes]
@[simp] theorem placeReturn_mode : (placeReturn f s).mode = s.mode := by
  rw [placeReturn_writes]
@[simp] theorem placeReturn_bindings : (placeReturn f s).bindings = s.bindings := by
  rw [placeReturn_writes]
@[simp] theorem placeReturn_activeBank : (placeReturn f s).activeBank = s.activeBank := by
  rw [placeReturn_writes]
@[simp] theorem placeReturn_shadowBank : (placeReturn f s).shadowBank = s.shadowBank := by
  rw [placeReturn_writes]
@[simp] theorem placeReturn_sweep : (placeReturn f s).sweep = s.sweep := by
  rw [placeReturn_writes]
@[simp] theorem placeReturn_tickCount : (placeReturn f s).tickCount = s.tickCount := by
  rw [placeReturn_writes]
@[simp] theorem placeReturn_tickPeriod : (placeReturn f s).tickPeriod = s.tickPeriod := by
  rw [placeReturn_writes]
@[simp] theorem placeReturn_periodInProgress : (placeReturn f s).periodInProgress = s.periodInProgress := by
  rw [placeReturn_writes]
@[simp] theorem placeReturn_noticeMask : (placeReturn f s).noticeMask = s.noticeMask := by
  rw [placeReturn_writes]
@[simp] theorem placeReturn_nextSequence : (placeReturn f s).nextSequence = s.nextSequence := by
  rw [placeReturn_writes]
@[simp] theorem placeReturn_reporter : (placeReturn f s).reporter = s.reporter := by
  rw [placeReturn_writes]
@[simp] theorem placeReturn_ackTimer : (placeReturn f s).ackTimer = s.ackTimer := by
  rw [placeReturn_writes]
@[simp] theorem placeReturn_retryCount : (placeReturn f s).retryCount = s.retryCount := by
  rw [placeReturn_writes]
@[simp] theorem placeReturn_ackTimeout : (placeReturn f s).ackTimeout = s.ackTimeout := by
  rw [placeReturn_writes]
@[simp] theorem placeReturn_retryLimit : (placeReturn f s).retryLimit = s.retryLimit := by
  rw [placeReturn_writes]
@[simp] theorem placeReturn_sLink : (placeReturn f s).sLink = s.sLink := by
  rw [placeReturn_writes]
@[simp] theorem placeReturn_cLink : (placeReturn f s).cLink = s.cLink := by
  rw [placeReturn_writes]
@[simp] theorem placeReturn_cTransmission : (placeReturn f s).cTransmission = s.cTransmission := by
  rw [placeReturn_writes]
@[simp] theorem placeReturn_forwardQueue : (placeReturn f s).forwardQueue = s.forwardQueue := by
  rw [placeReturn_writes]
@[simp] theorem placeReturn_forwardCount : (placeReturn f s).forwardCount = s.forwardCount := by
  rw [placeReturn_writes]
@[simp] theorem placeReturn_defaultPolicy : (placeReturn f s).defaultPolicy = s.defaultPolicy := by
  rw [placeReturn_writes]
@[simp] theorem placeReturn_responses : (placeReturn f s).responses = s.responses := by
  rw [placeReturn_writes]
@[simp] theorem placeReturn_cache : (placeReturn f s).cache = s.cache := by
  rw [placeReturn_writes]
@[simp] theorem placeReturn_pending : (placeReturn f s).pending = s.pending := by
  rw [placeReturn_writes]

end

/-! ### Links and receptions (R137 to R143) -/

@[simp] theorem linkOf_setLink (port : Port) (l : Link) (s : State) : linkOf port (setLink port l s) = l := by
  cases port <;> rfl

/-- A port that enters UP with no frame to start on the S port. -/
theorem linkUp_of_none {port : Port} {s : State} (h : port = .c ∨ s.sTransmission ≠ none ∨ s.returnQueue = []) :
    linkUp port s = setLink port (.up 0 false) s := by
  cases port with
  | s => exact startSTransmission_of_none (.inr (h.resolve_left (by simp)))
  | c => rfl

/-- The S port that enters UP with its transmitter idle takes the oldest frame that waits. -/
theorem linkUp_of_frame {s : State} {f : Frame} {rest : List Frame} (h : s.sTransmission = none)
    (hq : s.returnQueue = f :: rest) :
    linkUp .s s = { s with sLink := .up 0 false, sTransmission := some f, returnQueue := rest } :=
  startSTransmission_of_frame rfl h hq

/-- An UP port receives a frame that passes the checks: its fault count is 0, and the frame is routed. -/
theorem receiveFrame_accepted {port : Port} {s : State} {n : Nat} {a : Bool} (route : State → State)
    (h : linkOf port s = .up n a) : receiveFrame port true route s = route (setLink port (.up 0 false) s) := by
  simp [receiveFrame, h]

/-- An UP port receives a frame that fails the checks. -/
theorem receiveFrame_rejected {port : Port} {s : State} {n : Nat} {a : Bool} (route : State → State)
    (h : linkOf port s = .up n a) : receiveFrame port false route s = faultyReception port s := by
  simp [receiveFrame, h]

/-- A port that is not UP accepts no frame. -/
theorem receiveFrame_notUp {port : Port} {s : State} (accepted : Bool) (route : State → State)
    (h : ∀ n a, linkOf port s ≠ .up n a) : receiveFrame port accepted route s = faultyReception port s := by
  unfold receiveFrame
  split
  · rename_i n a hn
    exact absurd hn (h n a)
  · rfl

/-- What a faulty frame does on a port in each link state. -/
theorem faultyReception_down {port : Port} {s : State} (h : linkOf port s = .down) : faultyReception port s = s := by
  simp [faultyReception, h]

theorem faultyReception_acquiring {port : Port} {s : State} {n : Nat} {o a : Bool} (h : linkOf port s = .acquiring n o a) :
    faultyReception port s = setLink port (.acquiring n o false) s := by
  simp [faultyReception, h]

theorem faultyReception_up {port : Port} {s : State} {n : Nat} {a : Bool} (h : linkOf port s = .up n a) :
    faultyReception port s =
      if n + 1 < 16 then setLink port (.up (n + 1) false) (raiseFlag (rxFaultFlag port) s)
      else linkDown port (raiseFlag (rxFaultFlag port) s) := by
  simp [faultyReception, h]

/-! ### Responses (R168, R169, R173) -/

theorem respond_of_room {s : State} (r : Response) (h : s.responses.length < 4) :
    respond r s = { s with responses := s.responses ++ [r], cache := cacheWith r s.cache } := by
  unfold respond queueResponse
  rw [if_pos h]

theorem respond_of_full {s : State} (r : Response) (h : 4 ≤ s.responses.length) :
    respond r s = { raiseFlag .mgmtOverrun s with cache := cacheWith r s.cache } := by
  unfold respond queueResponse
  rw [if_neg (by simpa using h)]
  simp

/-! ### The C-port scheduler (R159, R160) -/

/-- Where the C port is not UP or its transmitter is busy, no grant is made. -/
theorem grantStep_of_busy {s : State} (h : (∀ n a, s.cLink ≠ .up n a) ∨ s.cTransmission ≠ none) : grantStep s = s := by
  unfold grantStep
  split
  · rename_i n a h1 h2
    exact h.elim (fun h => absurd h1 (h n a)) fun h => absurd h2 h
  · rfl

/-- At an idle transmitter of an UP port the scheduler chooses. -/
theorem grantStep_of_idle {s : State} {n : Nat} {a : Bool} (h1 : s.cLink = .up n a) (h2 : s.cTransmission = none) :
    grantStep s = grantChoice s := by simp [grantStep, h1, h2]

/-- A grant to delivery takes the frame into transmission. -/
theorem grantDelivery_busy (s : State) : (grantDelivery s).cTransmission ≠ none := nofun

/-- What the choice leaves: a transmission in progress, or the state as it was with nothing to send. -/
theorem grantChoice_cases (s : State) :
    (grantChoice s).cTransmission ≠ none
    ∨ (s.responses = [] ∧ s.forwardQueue = [] ∧ deliveryReady s = false ∧ grantChoice s = s) := by
  unfold grantChoice
  cases hr : s.responses with
  | cons r rest => exact .inl nofun
  | nil =>
    dsimp only
    split
    · exact .inl (grantDelivery_busy s)
    · cases hf : s.forwardQueue with
      | cons f rest => exact .inl nofun
      | nil =>
        dsimp only
        split
        · exact .inl (grantDelivery_busy s)
        · rename_i hd
          exact .inr ⟨rfl, rfl, Bool.eq_false_iff.mpr hd, rfl⟩

/-- After the scheduler's happening an idle transmitter of an UP port has nothing to send. -/
theorem grantStep_settles {s : State} {n : Nat} {a : Bool} (h1 : s.cLink = .up n a)
    (h2 : (grantStep s).cTransmission = none) :
    s.responses = [] ∧ s.forwardQueue = [] ∧ deliveryReady s = false ∧ grantStep s = s := by
  cases ht : s.cTransmission with
  | some x =>
    rw [grantStep_of_busy (.inr (by simp [ht])), ht] at h2
    cases h2
  | none =>
    rw [grantStep_of_idle h1 ht] at h2 ⊢
    exact (grantChoice_cases s).resolve_left fun h => h h2

/-- With nothing to send no grant is made. -/
theorem grantStep_of_nothing {s : State} (hr : s.responses = []) (hf : s.forwardQueue = []) (hd : deliveryReady s = false) :
    grantStep s = s := by
  unfold grantStep
  split
  · simp [grantChoice, hr, hf, hd]
  · rfl

/-- A grant writes the three sources, their transmission and the scheduler's count, and of the rest the next sequence number
and the reporter. -/
theorem grantStep_writes (s : State) :
    grantStep s =
      { s with
        responses := (grantStep s).responses
        forwardQueue := (grantStep s).forwardQueue
        forwardCount := (grantStep s).forwardCount
        cTransmission := (grantStep s).cTransmission
        store := (grantStep s).store
        nextSequence := (grantStep s).nextSequence
        reporter := (grantStep s).reporter } := by
  unfold grantStep grantChoice grantDelivery
  repeat' split
  all_goals rfl

@[simp] theorem grantStep_pins (s : State) : (grantStep s).pins = s.pins := by rw [grantStep_writes]
@[simp] theorem grantStep_address (s : State) : (grantStep s).address = s.address := by rw [grantStep_writes]
@[simp] theorem grantStep_mode (s : State) : (grantStep s).mode = s.mode := by rw [grantStep_writes]
@[simp] theorem grantStep_bindings (s : State) : (grantStep s).bindings = s.bindings := by rw [grantStep_writes]
@[simp] theorem grantStep_activeBank (s : State) : (grantStep s).activeBank = s.activeBank := by rw [grantStep_writes]
@[simp] theorem grantStep_shadowBank (s : State) : (grantStep s).shadowBank = s.shadowBank := by rw [grantStep_writes]
@[simp] theorem grantStep_sweep (s : State) : (grantStep s).sweep = s.sweep := by rw [grantStep_writes]
@[simp] theorem grantStep_tickCount (s : State) : (grantStep s).tickCount = s.tickCount := by rw [grantStep_writes]
@[simp] theorem grantStep_tickPeriod (s : State) : (grantStep s).tickPeriod = s.tickPeriod := by rw [grantStep_writes]
@[simp] theorem grantStep_periodInProgress (s : State) : (grantStep s).periodInProgress = s.periodInProgress := by rw [grantStep_writes]
@[simp] theorem grantStep_noticeMask (s : State) : (grantStep s).noticeMask = s.noticeMask := by rw [grantStep_writes]
@[simp] theorem grantStep_owedNotices (s : State) : (grantStep s).owedNotices = s.owedNotices := by rw [grantStep_writes]
@[simp] theorem grantStep_ackTimer (s : State) : (grantStep s).ackTimer = s.ackTimer := by rw [grantStep_writes]
@[simp] theorem grantStep_retryCount (s : State) : (grantStep s).retryCount = s.retryCount := by rw [grantStep_writes]
@[simp] theorem grantStep_ackTimeout (s : State) : (grantStep s).ackTimeout = s.ackTimeout := by rw [grantStep_writes]
@[simp] theorem grantStep_retryLimit (s : State) : (grantStep s).retryLimit = s.retryLimit := by rw [grantStep_writes]
@[simp] theorem grantStep_sLink (s : State) : (grantStep s).sLink = s.sLink := by rw [grantStep_writes]
@[simp] theorem grantStep_sTransmission (s : State) : (grantStep s).sTransmission = s.sTransmission := by rw [grantStep_writes]
@[simp] theorem grantStep_cLink (s : State) : (grantStep s).cLink = s.cLink := by rw [grantStep_writes]
@[simp] theorem grantStep_returnQueue (s : State) : (grantStep s).returnQueue = s.returnQueue := by rw [grantStep_writes]
@[simp] theorem grantStep_defaultPolicy (s : State) : (grantStep s).defaultPolicy = s.defaultPolicy := by rw [grantStep_writes]
@[simp] theorem grantStep_cache (s : State) : (grantStep s).cache = s.cache := by rw [grantStep_writes]
@[simp] theorem grantStep_flags (s : State) : (grantStep s).flags = s.flags := by rw [grantStep_writes]
@[simp] theorem grantStep_pending (s : State) : (grantStep s).pending = s.pending := by rw [grantStep_writes]

/-- A second grant finds none due. -/
@[simp] theorem grantStep_grantStep (s : State) : grantStep (grantStep s) = grantStep s := by
  by_cases h : (∀ n a, (grantStep s).cLink ≠ .up n a) ∨ (grantStep s).cTransmission ≠ none
  · exact grantStep_of_busy h
  · simp only [grantStep_cLink, not_or, not_forall, not_not] at h
    obtain ⟨⟨n, a, hn⟩, ht⟩ := h
    rw [(grantStep_settles hn ht).2.2.2, (grantStep_settles hn ht).2.2.2]

/-! ### Power and the inputs (R190) -/

/-- A running part takes the command, and the grant that it makes due. -/
theorem whenRunning_running {s : State} (f : State → State) (h : s.pins = runningPins) :
    whenRunning f s = .next (grantStep (f s)) := by simp [whenRunning, h]

theorem whenRunning_held {s : State} (f : State → State) (h : s.pins ≠ runningPins) :
    whenRunning f s = .next s := by simp [whenRunning, h]

end Sys2Proof.Machine
end

