-- ==== Sys2Proof/Laws/Agent.lean ====
section
/-! SUPPORT. What the management agent makes of a request, by where the request is sent and which test it meets. -/

namespace Sys2Proof.Machine

open Sys2Proof.Safety

/-- What a frame handed to the return queue leaves. -/
theorem placeReturn_eq_passedOn (f : Frame) (s : State) : placeReturn f s = passedOn f s := by
  unfold passedOn
  by_cases h : 8 ≤ s.returnQueue.length
  · rw [placeReturn_of_full f h, if_pos h]
  · rw [placeReturn_of_room f (by omega), if_neg h]
    by_cases hi : isUp s.sLink = true ∧ s.sTransmission = none
    · rw [if_pos hi]
      obtain ⟨n, a, hn⟩ : ∃ n a, s.sLink = .up n a := by
        have hu := hi.1
        unfold isUp at hu
        split at hu
        · exact ⟨_, _, by assumption⟩
        · cases hu
      cases hq : s.returnQueue with
      | nil => exact startSTransmission_of_frame hn hi.2 rfl
      | cons oldest rest => exact startSTransmission_of_frame hn hi.2 rfl
    · rw [if_neg hi]
      refine startSTransmission_of_none ?_
      by_cases hu : isUp s.sLink = true
      · exact .inr (.inl fun h => hi ⟨hu, h⟩)
      · exact .inl fun n a hn => hu (by rw [show s.sLink = .up n a from hn]; rfl)

/-- What a frame handed to the forward queue leaves. -/
theorem placeForward_eq_forwarded (f : Frame) (s : State) : placeForward f s = forwarded f s := rfl

/-- What a record offered to the store leaves. -/
theorem offerRecord_eq_recorded (body : Body) (s : State) : offerRecord body s = recorded body s := by
  unfold recorded
  split
  · exact offerRecord_of_room body ‹_›
  · rfl

/-- An UP C port holds its fault count. -/
theorem up_of_receives {port : Port} {s : State} (h : Receives port s) : ∃ n a, linkOf port s = .up n a := by
  have h2 := h.2
  unfold isUp at h2
  split at h2
  · exact ⟨_, _, by assumption⟩
  · cases h2

/-- Every command of a running part but POWER_ON ends with the grant that it makes due (R159). -/
theorem exec_running {c : Instr} {s : State} (h : s.pins = runningPins) (hc : ∀ p, c ≠ .powerOn p) :
    ∃ u, exec c s = .next (grantStep u) := by
  cases c
  case powerOn p => exact absurd rfl (hc p)
  all_goals exact ⟨_, whenRunning_running _ h⟩

/-- A request that arrives at an UP C port is routed, with the port's fault count at 0, and the grant due is made. -/
theorem receiveRequest_arrives {code : BitVec 8} {r : Request} {s : State} (h : Arrives r s) :
    receiveRequest code r s = .next (grantStep (routeRequest code r (setLink .c (.up 0 false) s))) := by
  obtain ⟨n, a, hn⟩ := up_of_receives h.1
  have hf : r.fits = true := decide_eq_true h.2
  rw [receiveRequest, whenRunning_running _ h.1.1, hf, receiveFrame_accepted _ hn]

/-- A request addressed to the node meets the tests of R165. -/
theorem receiveRequest_reaches {code : BitVec 8} {r : Request} {s : State} (h : ReachesAgent r s) :
    receiveRequest code r s = .next (grantStep (takeUnicast code r (setLink .c (.up 0 false) s))) := by
  rw [receiveRequest_arrives h.1, routeRequest, setLink_mode, setLink_address, if_neg h.2.1, if_pos h.2.2]

/-- A request that passes the tests of R165 is executed and answered. -/
theorem receiveRequest_executes {code : BitVec 8} {r : Request} {s : State} (h : Executes code r s) :
    receiveRequest code r s =
      .next (grantStep (answerRequest code r (executeRequest code r false (setLink .c (.up 0 false) s)))) := by
  obtain ⟨h1, h2, h3, h4⟩ := h
  rw [receiveRequest_reaches h1, takeUnicast]
  have h2' : repeatsCommit code r.tag (setLink .c (.up 0 false) s) = false := h2
  have h4' : cachedResponse code r.tag (setLink .c (.up 0 false) s) = none := h4
  rw [h2', h4']
  simp only [setLink_responses, Config.agentCapacity]
  rw [if_neg (by decide), if_neg (by omega)]

/-- An executed request answered while the response queue has room. -/
theorem answerRequest_of_room {code : BitVec 8} {r : Request} {s : State} {status : Status}
    {results : List (Option Word)} (h : s.responses.length < 4) :
    answerRequest code r (s, .answer status results) =
      { s with
        responses := s.responses ++ [{ tag := r.tag, code := code, status := status, results := results }]
        cache := cacheWith { tag := r.tag, code := code, status := status, results := results } s.cache } :=
  respond_of_room _ h

/-- A request refused: the node is unchanged but for the C port's fault count, the response and its cache entry. -/
theorem answerRequest_refuse {code : BitVec 8} {r : Request} {s : State} {status : Status}
    (h : s.responses.length < 4) :
    answerRequest code r (refuse status (setLink .c (.up 0 false) s)) = answered code r.tag status [] s :=
  respond_of_room _ h

/-- The command of each command code. -/
theorem commandOf_commandCode (c : Command) : commandOf (commandCode c) = some c := by cases c <;> rfl

/-- What executing a request of a defined command code does. -/
theorem executeRequest_command (c : Command) (r : Request) (broadcast : Bool) (s : State) :
    executeRequest (commandCode c) r broadcast s =
      if operandCountFits c r.operands then runCommand c r.tag broadcast r.operands s else refuse .malformed s := by
  rw [executeRequest, commandOf_commandCode]

/-- Every management command receives its request with its own command code. -/
theorem exec_requestCommand (c : Command) (r : Request) (s : State) :
    exec (requestCommand c r) s = receiveRequest (commandCode c) r s := by cases c <;> rfl

end Sys2Proof.Machine
end

