-- ==== Sys2Proof/Tests/Slice0.lean ====
section
/-! SUPPORT. Tests: ill-formed commands that WellFormed refuses, frame words written out from the layouts, one-step tests with
the expected values of the manual's worked examples, and for each obligation with hypotheses the states that meet them. -/

namespace Sys2Proof.Tests

open Sys2Proof.Machine Sys2Proof.Safety

-- One theorem after another: the kernel's evaluations of many at once need more threads than the memory limit allows.
set_option Elab.async false

/-! ### Small states -/

/-- The state after a command. -/
def after (c : Instr) (s : State) : State :=
  match exec c s with
  | .next t => t
  | _ => s

/-- A frame of kind code 6. -/
def kind6 : Frame := { kind := 6, address := 0, extension := 0, payload := [] }

/-- Both links UP, each one fault short of its limit, and a frame in transmission on the C port. -/
def linksUp : State :=
  { State.reset with sLink := .up 15 false, cLink := .up 15 false, cTransmission := some (.forwarded kind6) }

/-- The state with the C port's transmitter idle. -/
def idleC (s : State) : State := { s with cTransmission := none }

/-- A FILTERING node at address 12 with both links UP. -/
def node : State := { linksUp with address := 12, mode := .filtering }

/-- A TRANSPARENT node at address 12. -/
def clear : State := { node with mode := .transparent }

/-- Profile 2 of §1.5. -/
def profile2 : Profile :=
  { thresholds := [100, 200, 300], hysteresis := 0, persistence := 1, edge := .both, origin := .explicit }

/-- Profile 4 of §1.5. -/
def profile4 : Profile :=
  { thresholds := [-50, 400], hysteresis := 0, persistence := 1, edge := .both, origin := .explicit }

/-- Slot 0 of Table 2-5. -/
def former0 : Profile :=
  { thresholds := [100, 200, 300], hysteresis := 10, persistence := 3, edge := .both, origin := .explicit }

/-- Binding 7 of §1.5 as its BIND leaves it. -/
def bound7 : Binding :=
  { source := 3, channel := 5, profile := 2, policy := .onChange, factor := 1, report := true, limit := 500
    track := .unsettled, reason := .bound, lastValue := none, decimation := 0, countdown := 500, latches := none
    resync := false, seen := 0, transitions := 0 }

/-- Binding 7 after the sample 250. -/
def settled7 : Binding :=
  { bound7 with track := .tracking 2 none, lastValue := some 250, latches := some ⟨2, 2⟩, seen := 1 }

/-- The node of §1.5 with entry 7 as given. -/
def life (b : Binding) : State := { node with activeBank := [(2, profile2), (4, profile4)], bindings := [(7, b)] }

/-- An UNSENT NOTICE record. -/
def unsentNotice : Record := { body := .notice .ackFault, delivery := .unsent, mergeCount := 1, timestamp := 0 }

/-- A STATE record of binding 7 that was sent. -/
def sent (n : BitVec 16) : Record :=
  { body := .settled ⟨7, 3, 5⟩ 2 (some 250) .bound, delivery := .sent n, mergeCount := 1, timestamp := 0 }

/-- The same record waiting to be sent again. -/
def resend (n : BitVec 16) : Record := { sent n with delivery := .resend n }

/-- A node AWAITING with two records SENT, 516 and 517, and one UNSENT. -/
def awaiting : State :=
  { node with
    store := [sent 516, sent 517, unsentNotice], nextSequence := 518, reporter := .awaiting, ackTimer := some 1 }

/-- A full store of UNSENT notices. -/
def full : List Record := List.replicate 64 unsentNotice

/-- A request to the node. -/
def request (tag : BitVec 8) (operands : List Word) : Request :=
  { address := 12, extension := 0, tag := tag, operands := operands }

/-- A response with no results. -/
def plain (tag code : BitVec 8) : Response := { tag := tag, code := code, status := .ok, results := [] }

/-- The pair (channel 5, value). -/
def pair5 (value : Word) : Pair := { channel := 5, value := value }

/-- A SAMPLE frame of source 3. -/
def sample3 (pairs : List Pair) : SampleFrame := { source := 3, extension := 0, sequence := 9, pairs := pairs }

/-- The last response queued. -/
def answer (s : State) : Option (Status × List (Option Word)) :=
  s.responses.getLast?.map fun r => (r.status, r.results)

/-! ### Ill-formed commands -/

theorem test_wf_sample_no_pairs : Instr.wellFormed (.sample (sample3 [])) = false := by decide +kernel
theorem test_wf_sample_address_63 :
    Instr.wellFormed (.sample { sample3 [pair5 1] with source := 63 }) = false := by decide +kernel
theorem test_wf_faulty_frame_passes :
    Instr.wellFormed (.faultyFrame .c ⟨[0x8141, 0, 518, 0x220D], .endMarker⟩) = false := by decide +kernel
theorem test_wf_forward_faulty :
    Instr.wellFormed (.forwardUnchanged .s { kind6 with kind := 2 }) = false := by decide +kernel
theorem test_wf_forward_enum_taken :
    Instr.wellFormed (.forwardUnchanged .c { kind6 with kind := 10 }) = false := by decide +kernel
theorem test_wf_ack_too_long : Instr.wellFormed (.ack 12 0 (List.replicate 65 0)) = false := by decide +kernel
theorem test_wf_enum_too_long : Instr.wellFormed (.enum 12 0 (List.replicate 65 0)) = false := by decide +kernel
theorem test_wf_reset_too_long : Instr.wellFormed (.chainReset 12 0 (List.replicate 65 0)) = false := by decide +kernel
theorem test_wf_unknown_is_defined : Instr.wellFormed (.unknownCommand 16 (request 0 [])) = false := by decide +kernel
theorem test_wf_request_too_long (c : Command) :
    Instr.wellFormed (requestCommand c (request 0 (List.replicate 64 0))) = false := by cases c <;> decide +kernel
theorem test_wf_request_fits (c : Command) :
    Instr.wellFormed (requestCommand c (request 0 (List.replicate 63 0))) = true := by cases c <;> decide +kernel

/-! ### Frame words, written out from Table 7-1 and R134 -/

/-- The check value of the generator x^16 + x^12 + x^5 + 1, preset to ones, over the characters 1234. -/
theorem test_crc_check_value : crc [0x3132, 0x3334] = 0x5349 := by decide +kernel
/-- ACK: kind 8, address 5, payload length 1; E = 518. -/
theorem test_read_ack : readFrame [0x8141, 0x0000, 518, 0x220D] = some ⟨8, 5, 0, [518]⟩ := by decide +kernel
/-- SAMPLE: kind 1, source 3, payload length 3; sequence 9 with 1 pair; channel 5; value 250. -/
theorem test_read_sample :
    (readFrame [0x10C3, 0x0000, 0x0901, 0x0005, 250, 0xFF96]).bind readSample = some (sample3 [pair5 250]) := by
  decide +kernel
/-- A payload of 64 words: its length lies in the bit of weight 64 alone. -/
theorem test_length_64 : codedLength 0x8140 0x0001 = 64 := by decide +kernel
theorem test_read_bad_crc : readFrame [0x8141, 0x0000, 518, 0x220C] = none := by decide +kernel
/-- MGMT_REQ: tag 43 in bits 15..8, command code 35 in bits 7..0. -/
theorem test_read_request :
    readRequest ⟨9, 12, 0, [0x2B23]⟩ = some (35, request 43 []) := by decide +kernel
/-- An EVENT record: sequence 500; STATE, reason BOUND, merge count 1; binding 7, source 3; channel 5, no from-zone, to-zone 2,
value present; 250; timestamp 0. -/
theorem test_record_words : recordWords (sent 500) = [500, 0x4001, 0x0703, 0x2FC5, 250, 0, 0] := by decide +kernel
/-- A response: tag 43, CONFLICT; code 35, one result; masks; the result. -/
theorem test_response_words :
    (responseFrame 12 { tag := 43, code := 35, status := .conflict, results := [some 7, none] }).payload
      = [0x2B07, 0x2302, 0x0002, 0, 7, 0] := by decide +kernel
theorem test_table_gives_no_words : decodeTableWord 16 0x8141 = none := rfl

/-! ### Power and links -/

theorem test_power_on_holds : (after (.powerOn ⟨true, true, false⟩) (life bound7)).bindings = [] := by decide +kernel
theorem test_held_part_ticks_not :
    (after .tick { State.reset with pins := ⟨true, false, true⟩ }).tickCount = 0 := by decide +kernel
/-- R156: the S port enters UP, and the oldest frame that waits is taken. -/
theorem test_s_port_up_takes_oldest :
    let s := after (.syncReceived .s) { State.reset with sLink := .acquiring 3 true false, returnQueue := [kind6] }
    (s.sLink, s.sTransmission, s.returnQueue) = (.up 0 false, some kind6, []) := by decide +kernel
theorem test_sync_inside_frame :
    (after (.syncReceived .c) { State.reset with cLink := .acquiring 3 true true }).cLink = .acquiring 0 true false := by
  decide +kernel
theorem test_violation_in_acquiring :
    (after (.framingError .c .violationOutside) { State.reset with cLink := .acquiring 3 true false }).cLink
      = .acquiring 0 false false := by decide +kernel
theorem test_start_inside_opens :
    (after (.framingError .s .startInside) { linksUp with sLink := .up 0 true }).sLink = .up 1 true := by decide +kernel
/-- §7.9: the outage empties both queues, sets LINK_LOSS_C and appends its NOTICE record; the sent records stay. -/
theorem test_outage :
    let s := after (.linkSilenceTimeout .c)
      { awaiting with forwardQueue := [kind6, kind6, kind6], responses := [plain 1 2], noticeMask := 256
                      cTransmission := some (.forwarded kind6) }
    (s.cLink, s.forwardQueue, s.responses, s.flags, s.store.length, numberedCount s.store)
      = (.down, [], [], 256, 4, 2) := by decide +kernel
theorem test_bad_crc_counted :
    let s := after (.faultyFrame .c ⟨[0x8141, 0, 518, 0x220C], .endMarker⟩) { node with cLink := .up 2 false }
    (s.cLink, s.flags) = (.up 3 false, 32) := by decide +kernel
theorem test_sixteenth_fault : (after (.faultyFrame .s ⟨[], .abortMarker⟩) node).sLink = .down := by decide +kernel

/-! ### Samples, the life of one binding (§1.5) and a commit under traffic (§2.5) -/

/-- The frame that carries the pair goes to the idle C transmitter before the record (R160, step 3). -/
theorem test_sample_250 :
    let s := after (.sample (sample3 [pair5 250])) (idleC (life bound7))
    s.bindings = [(7, settled7)] ∧ s.cTransmission = some (.forwarded (sampleAsFrame (sample3 [pair5 250])))
      ∧ (s.forwardQueue, s.forwardCount, s.store.map Record.delivery) = ([], 1, [.unsent]) := by decide +kernel
/-- §3.11: the node with bindings 10, 11 and 12 of source 7, its default policy DROP, at tick count 5200. -/
def six : State :=
  let profile (thresholds : List Word) (hysteresis persistence : Nat) (edge : Edge) : Profile :=
    { thresholds := thresholds, hysteresis := hysteresis, persistence := persistence, edge := edge, origin := .explicit }
  let binding (channel : BitVec 5) (slot : Fin 32) : Binding :=
    { bound7 with source := 7, channel := channel, profile := slot, track := .tracking 0 none, latches := some ⟨0, 0⟩ }
  { node with
    defaultPolicy := .drop, tickCount := 5200
    activeBank := [(3, profile [100, 200] 0 1 .both), (4, profile [1000] 20 2 .both), (5, profile [50] 5 2 .rising)]
    bindings :=
      [ (10, { binding 0 3 with policy := .pass }), (11, { binding 1 4 with policy := .decimate, factor := 3 }),
        (12, { binding 2 5 with track := .unsettled, latches := none }) ] }
/-- §3.11: the six pairs, the two records in pair order, the three pairs kept, and what the bindings hold after the frame. -/
theorem test_six_pairs :
    let s := after
      (.sample ⟨7, 0, 41, [⟨0, 120⟩, ⟨1, 500⟩, ⟨2, 40⟩, ⟨3, 999⟩, ⟨1, 510⟩, ⟨2, 60⟩]⟩) six
    s.store.map Record.body = [.transition ⟨10, 7, 0⟩ 0 1 120, .settled ⟨12, 7, 2⟩ 0 (some 40) .bound]
      ∧ s.store.map Record.timestamp = [5200, 5200]
      ∧ s.forwardQueue = [sampleAsFrame ⟨7, 0, 41, [⟨0, 120⟩, ⟨1, 500⟩, ⟨2, 40⟩]⟩]
      ∧ s.bindings.map (fun e => e.2.track) = [.tracking 1 none, .tracking 0 none, .tracking 0 (some ⟨1, 1⟩)]
      ∧ s.bindings.map (fun e => (e.2.latches, e.2.lastValue, e.2.decimation))
          = [(some ⟨1, 0⟩, some 120, 0), (some ⟨0, 0⟩, some 510, 1), (some ⟨0, 0⟩, some 60, 0)]
      ∧ s.bindings.map (fun e => (e.2.seen, e.2.transitions)) = [(1, 1), (2, 0), (2, 0)] := by decide +kernel
/-- With zone 1 and hysteresis 10 the shifted thresholds are 90, 210 and 310; 215 passes two of them. -/
theorem test_effective_zone_215 : effectiveZone [100, 200, 300] 10 1 215 = 2 := by decide +kernel
theorem test_raw_zone_215 : rawZone [150, 250, 350] 215 = 1 := by decide +kernel

/-! ### Forwarding, node control and acknowledgement -/

/-- §8.7: kind code 6 passes on from the S port. -/
theorem test_kind6_forwarded : (after (.forwardUnchanged .s kind6) node).forwardQueue = [kind6] := by decide +kernel
theorem test_full_queue_loses :
    (after (.forwardUnchanged .s kind6) { node with forwardQueue := List.replicate 8 kind6 }).flags = 1 := by
  decide +kernel
/-- §8.7: an UNADDRESSED node takes address 9 and passes 10 on; the idle S transmitter takes it at once (R156). -/
theorem test_enum_9 :
    let s := after (.enum 9 0 []) linksUp
    (s.address, s.mode, s.sTransmission, s.returnQueue) = (9, .filtering, some ⟨10, 10, 0, []⟩, []) := by decide +kernel
/-- While the S port is DOWN the ENUM waits. -/
theorem test_enum_62_exhausts :
    (after (.enum 62 0 []) { linksUp with sLink := .down }).returnQueue = [⟨10, 63, 0, []⟩] := by decide +kernel
/-- §6.9, steps 15 and 16. -/
theorem test_ack_518 :
    let s := after (.ack 12 0 [518]) { awaiting with store := [sent 516, sent 517], retryCount := 1 }
    (s.store, s.reporter, s.ackTimer, s.retryCount) = ([], .idle, none, 0) := by decide +kernel
theorem test_late_ack :
    (after (.ack 12 0 [518]) { node with nextSequence := 519 }).flags = 8 := by decide +kernel
/-- R152: the queue is emptied and the transmission aborted, and the RESET frame is the first one sent after it. -/
theorem test_reset_is_sent_first :
    let s := after (.chainReset 1 0 [7]) { awaiting with returnQueue := [kind6], sTransmission := some kind6 }
    (s.sTransmission, s.returnQueue, s.mode, s.store, s.nextSequence)
      = (some ⟨11, 1, 0, [7]⟩, [], .unaddressed, [], 518) := by decide +kernel
theorem test_reset_waits_alone :
    let s := after (.chainReset 1 0 [7]) { awaiting with returnQueue := [kind6], sLink := .down }
    (s.sTransmission, s.returnQueue) = (none, [⟨11, 1, 0, [7]⟩]) := by decide +kernel

/-! ### Ticks, expiries, grants and transmissions -/

/-- §4.8, the tick of 70005: the binding expires with its last known zone. R162: the record it offers makes its own grant. -/
theorem test_tick_70005 :
    let s := after .tick { idleC (life { settled7 with countdown := 1 }) with tickCount := 70004 }
    (s.tickCount, s.bindings) = (70005, [(7, { settled7 with track := .stale (some 2), reason := .fresh, countdown := 0 })])
      ∧ s.store.map (fun r => (r.timestamp, r.delivery)) = [(70005, .sent 0)] ∧ s.nextSequence = 1
      ∧ s.cTransmission.isSome := by decide +kernel
theorem test_tick_starts_next_period :
    (after .tick { node with tickPeriod := 3 }).periodInProgress = 3 := by decide +kernel
theorem test_silence_expiry_not_due :
    (after (.silenceExpiry 7) (life settled7)).bindings = [(7, settled7)] := by decide +kernel
/-- §6.9, step 7. -/
theorem test_timer_expiry :
    let s := after .ackTimerExpiry awaiting
    (s.store, s.retryCount, s.ackTimer) = ([resend 516, resend 517, unsentNotice], 1, none) := by decide +kernel
theorem test_timer_stalls :
    (after .ackTimerExpiry { awaiting with retryCount := 4 }).reporter = .stalled := by decide +kernel
/-- Table 6-2: 3 SENT, 2 RESEND, 10 UNSENT give the 2 RESEND, then 6 UNSENT, numbered from the next number on. -/
theorem test_assembly :
    let a := assemble ([sent 1, sent 2, sent 3, resend 4, resend 5] ++ List.replicate 10 unsentNotice) 6
    (a.taken.filterMap recordSequence, a.nextSequence) = ([4, 5, 6, 7, 8, 9, 10, 11], 12) := by decide +kernel
/-- Table 8-3, grant 8: at a count of 3 delivery goes before the forward queue. -/
theorem test_grant_8 :
    let s := after .cPortGrant { idleC node with store := [unsentNotice], forwardQueue := [kind6], forwardCount := 3 }
    (s.forwardCount, s.forwardQueue, s.reporter) = (0, [kind6], .awaiting) := by decide +kernel
theorem test_s_port_takes_oldest :
    let s := after .sPortTransmitStart { node with returnQueue := [kind6, ⟨11, 0, 0, []⟩] }
    (s.sTransmission, s.returnQueue) = (some kind6, [⟨11, 0, 0, []⟩]) := by decide +kernel
/-- R157: the completion takes the oldest frame of the queue. -/
theorem test_completion_takes_oldest :
    let s := after (.transmissionComplete .s)
      { node with sTransmission := some kind6, returnQueue := [⟨11, 0, 0, []⟩, kind6] }
    (s.sTransmission, s.returnQueue) = (some ⟨11, 0, 0, []⟩, [kind6]) := by decide +kernel
/-- §6.9, step 2: the completion of the EVENT frame starts the timer with 40. R159: it takes the next grant too. -/
theorem test_event_completes :
    let s := after (.transmissionComplete .c) { awaiting with ackTimer := none, cTransmission := some (.event kind6 []) }
    (s.ackTimer, s.store, s.nextSequence)
      = (some 40, [sent 516, sent 517, { unsentNotice with delivery := .sent 518 }], 519) := by decide +kernel

/-! ### Management (§9.7, §10.7) -/

/-- §9.7, steps 4 and 13. -/
theorem test_unknown_7 : answer (after (.unknownCommand 7 (request 23 [])) node) = some (.unknown, []) := by decide +kernel
theorem test_identify :
    answer (after (.identify (request 1 [])) node)
      = some (.ok, [some 0x0320, some 1, some 12, some 2, some 256, some 32, some 15, some 64, some 8, some 1]) := by
  decide +kernel
theorem test_read_status :
    answer (after (.readStatus (request 24 [])) { awaiting with flags := 64 })
      = some (.ok, [some 64, some 1, some 0, some 518, some 3, some 2, some 0, some 0, some 2, some 12]) := by
  decide +kernel
/-- R159: the response joins its empty queue while the C transmitter is idle, and is granted at once. -/
theorem test_response_is_granted :
    let s := after (.readStatus (request 24 [])) (idleC node)
    s.responses = [] ∧ (s.cTransmission matches some (.response _)) := by decide +kernel
/-- §9.7, step 14. -/
theorem test_clear_status :
    let s := after (.clearStatus (request 25 [64])) { node with flags := 65 }
    (s.flags, answer s) = (1, some (.ok, [some 65])) := by decide +kernel
theorem test_set_mode_resumes :
    let s := after (.setMode (request 1 [2])) { life settled7 with mode := .transparent }
    (s.mode, s.bindings) = (.filtering, [(7, { settled7 with track := .unsettled, reason := .resumed })]) := by
  decide +kernel
/-- §10.7: the queued responses, then ABORTED for the COMMIT, then OK with the number of records removed. -/
theorem test_restart_in_sweep :
    let s := after (.restart (request 71 []))
      { awaiting with responses := [plain 68 2, plain 69 2], sweep := some ⟨70, false⟩, flags := 33 }
    s.responses.map Response.tag = [68, 69, 70, 71] ∧ s.cache.map Response.tag = [71] ∧ s.flags = 0
      ∧ answer s = some (.ok, [some 3]) := by decide +kernel
/-- §10.7, R146, R163: an EVENT frame in transmission is aborted, the part's own or one it forwards, and the RESTART's response
is granted first; any other frame runs on. -/
theorem test_restart_aborts_event :
    let left (t : CTransmission) := (after (.restart (request 71 [])) { awaiting with cTransmission := some t }).cTransmission
    let own := some (.response (responseFrame 12 { tag := 71, code := 5, status := .ok, results := [some 3] }))
    left (.event kind6 [516, 517]) = own ∧ left (.forwarded { kind6 with kind := 2 }) = own
      ∧ left (.forwarded kind6) = some (.forwarded kind6) := by decide +kernel
theorem test_bind_7 :
    (after (.bind (request 1 [7, 3, 5, 2, 2, 1, 1, 500])) { life bound7 with bindings := [] }).bindings = [(7, bound7)] := by
  decide +kernel
theorem test_bind_conflict :
    answer (after (.bind (request 1 [9, 3, 5, 2, 2, 1, 1, 500])) (life settled7)) = some (.conflict, []) := by
  decide +kernel
theorem test_unbind_counts :
    let s := after (.unbind (request 1 [7]))
      { life settled7 with store := [sent 1, { sent 2 with delivery := .unsent }, unsentNotice] }
    (s.bindings, s.store, answer s) = ([], [sent 1, unsentNotice], some (.ok, [some 1])) := by decide +kernel
theorem test_modify_reprofiles :
    (after (.modifyBinding (request 1 [7, 1, 4])) (life settled7)).bindings
      = [(7, { settled7 with profile := 4, track := .unsettled, reason := .reprofiled, latches := none })] := by
  decide +kernel
/-- §9.7, step 3. -/
theorem test_read_binding_300 :
    answer (after (.readBinding (request 22 [300, 0])) node) = some (.range, []) := by decide +kernel
theorem test_read_binding_clears :
    (after (.readBinding (request 21 [7, 1])) (life { settled7 with latches := some ⟨3, 0⟩ })).bindings
      = [(7, settled7)] := by decide +kernel
/-- Table 2-2. -/
theorem test_load_span :
    (after (.loadProfile (request 41 [0, 1, 10, 3, 3, -100, 50, 4])) node).shadowBank
      = [(0, { former0 with thresholds := [-100, -50, 0, 50], origin := .span })] := by decide +kernel
theorem test_load_span_range :
    answer (after (.loadProfile (request 41 [0, 1, 10, 3, 3, 32000, 500, 3])) node) = some (.range, []) := by
  decide +kernel
theorem test_clear_profile :
    (after (.clearProfile (request 1 [4])) { node with shadowBank := [(2, profile2), (4, profile4)] }).shadowBank
      = [(2, profile2)] := by decide +kernel
theorem test_copy_active :
    let s := after (.copyActive (request 40 [])) (life settled7)
    (s.shadowBank, answer s) = (s.activeBank, some (.ok, [some 2])) := by decide +kernel
theorem test_commit_conflict :
    answer (after (.commit (request 43 [])) (life settled7)) = some (.conflict, [some 7]) := by decide +kernel
/-- §2.5: a differing ladder unsettles, and the COMMIT's tag is answered with the resettle count. -/
theorem test_sweep_end :
    let s := after .commitSweepEnd { life settled7 with shadowBank := [(2, profile4)], sweep := some ⟨43, false⟩ }
    (s.activeBank, s.bindings.map (fun e => e.2.track), s.sweep, s.responses)
      = ([(2, profile4)], [.unsettled], none,
        [{ tag := 43, code := 35, status := .ok, results := [some 1] }]) := by decide +kernel
/-- §2.5: an edge mode alone that differs unsettles nothing. -/
theorem test_sweep_end_edge :
    (after .commitSweepEnd
      { life settled7 with shadowBank := [(2, { profile2 with edge := .rising })], sweep := some ⟨43, true⟩ }).bindings
      = [(7, settled7)] := by decide +kernel
theorem test_read_profile_empty :
    answer (after (.readProfile (request 1 [1, 2])) (life settled7)) = some (.ok, [some 1, some 2, some 1, some 0]) := by
  decide +kernel
theorem test_set_tick :
    let s := after (.setTick (request 1 [3])) node
    (s.tickPeriod, s.periodInProgress, answer s) = (3, 1, some (.ok, [some 1])) := by decide +kernel
theorem test_set_delivery_lowers_retry :
    (after (.setDelivery (request 1 [40, 2])) { awaiting with retryCount := 3 }).retryCount = 2 := by decide +kernel
theorem test_clear_stall :
    let s := after (.clearStall (request 1 [])) { awaiting with reporter := .stalled, ackTimer := none, retryCount := 4 }
    (s.reporter, s.retryCount, answer s) = (.awaiting, 0, some (.ok, [some 2])) := by decide +kernel
theorem test_set_notices_512 :
    answer (after (.setNotices (request 1 [512])) node) = some (.range, []) := by decide +kernel
theorem test_set_default :
    let s := after (.setDefault (request 1 [3])) node
    (s.defaultPolicy, answer s) = (.drop, some (.ok, [some 0])) := by decide +kernel

/-! ### States that meet the obligations' hypotheses, clause by clause -/

/-- A node with a filtered binding in TRACKING, in zone 1 with hysteresis 10 and persistence 3, its candidate as given. -/
def tracking (candidate : Option Candidate) : State :=
  { node with
    activeBank := [(0, former0)]
    bindings := [(7, { bound7 with profile := 0, policy := .pass, track := .tracking 1 candidate, latches := some ⟨1, 1⟩ })] }

/-- A UP record of binding 7 that waits to be sent. -/
def unsentUp : Record :=
  { body := .transition ⟨7, 3, 5⟩ 1 2 250, delivery := .unsent, mergeCount := 255, timestamp := 0 }

/-- A full store whose last record is the UP record of binding 7. -/
def fullUp : State := { life settled7 with store := List.replicate 63 unsentNotice ++ [unsentUp] }

/-- A store of 64 records SENT, 454 to 517. -/
def fullSent : State :=
  { node with
    store := (List.range 64).map fun k => sent (BitVec.ofNat 16 (454 + k))
    nextSequence := 518, reporter := .awaiting }

theorem witness_StepTakesFrontCommand : State.reset.pending = [] := rfl

theorem witness_ExecLeavesQueueAlone : ∃ t, exec .tick State.reset = .next t := ⟨_, rfl⟩

theorem witness_HeldPartTakesNothing :
    { State.reset with pins := ⟨true, true, false⟩ }.pins ≠ runningPins ∧ ∀ p, Instr.tick ≠ .powerOn p :=
  ⟨by decide, fun _ => by simp⟩

theorem witness_DownPortWaitsForSync :
    State.reset.pins = runningPins ∧ (∀ port, linkOf port State.reset = .down)
      ∧ FramingError.idleInside ≠ .syncInside ∧ (⟨[], .endMarker⟩ : Reception).closing ≠ .syncMarker :=
  ⟨rfl, fun port => by cases port <;> rfl, by decide, by decide⟩

theorem witness_AcquiringPortCountsCleanIntervals :
    (∀ n o a, linkOf .s { State.reset with sLink := .acquiring n o a } = .acquiring n o a)
      ∧ (∀ n o a, linkOf .c { State.reset with cLink := .acquiring n o a } = .acquiring n o a)
      ∧ State.reset.pins = runningPins ∧ 0 < 3 ∧ 2 < 3 ∧ State.reset.sTransmission = none ∧ State.reset.returnQueue = []
      ∧ { State.reset with returnQueue := [kind6] }.returnQueue = kind6 :: []
      ∧ { State.reset with sTransmission := some kind6 }.sTransmission ≠ none :=
  ⟨fun _ _ _ => rfl, fun _ _ _ => rfl, rfl, by decide, by decide, rfl, rfl, rfl, by simp⟩

theorem witness_FaultyFrameIsCounted :
    linkOf .s { linksUp with sLink := .up 14 true } = .up 14 true ∧ linkOf .s linksUp = .up 15 false
      ∧ linkOf .s { linksUp with sLink := .up 15 true } = .up 15 true
      ∧ linkOf .c linksUp = .up 15 false ∧ linksUp.pins = runningPins
      ∧ rejected .c ⟨[0x8141, 0, 518, 0x220C], .endMarker⟩ = true ∧ rejected .s ⟨[], .codeViolation⟩ = true := by
  decide +kernel

theorem witness_LinkSilenceTakesPortDown : linksUp.pins = runningPins ∧ linkOf .s linksUp = .up 15 false := by decide

theorem witness_ReceptionChecks :
    (⟨[1, 2], .abortMarker⟩ : Reception).closing ≠ .endMarker ∧ [1, 2].length < 3 ∧ 67 < (List.replicate 68 (0 : Word)).length
      ∧ 64 < codedLength 0x8141 1 ∧ [(518 : Word), 1].length ≠ codedLength 0x8141 0 ∧ crc [0x8141, 0, 518] ≠ 0x220C
      ∧ codedLength 0x8140 1 ≤ 64 ∧ (List.replicate 64 (0 : Word)).length = codedLength 0x8140 1
      ∧ [(518 : Word)].length = codedLength 0x8141 0 ∧ crc [0x8141, 0, 518] = 0x220D := by decide +kernel

theorem witness_FlagSettingOffersNotice :
    hasFlag 4 .eventLoss = true ∧ hasFlag 0 .eventLoss = false ∧ hasFlag 0 .eventLoss = false
      ∧ hasFlag 4 .eventLoss = true ∧ (List.replicate 63 unsentNotice).length < 64 ∧ 64 ≤ full.length := by decide +kernel

theorem witness_FrameJoinsOppositeQueue :
    Receives .s linksUp ∧ frameAccepted .s kind6 = true ∧ kind6.kind ≠ 1 ∧ Receives .c linksUp
      ∧ frameAccepted .c kind6 = true ∧ kind6.kind ∉ [8, 9, 10, 11] ∧ (List.replicate 7 kind6).length < 8
      ∧ 8 ≤ (List.replicate 8 kind6).length ∧ isUp linksUp.sLink ∧ linksUp.sTransmission = none ∧ linksUp.returnQueue = []
      ∧ Receives .c { linksUp with sLink := .down } ∧ ¬ isUp { linksUp with sLink := .down }.sLink
      ∧ { linksUp with sTransmission := some kind6 }.sTransmission ≠ none
      ∧ List.replicate 7 kind6 = kind6 :: List.replicate 6 kind6 := by decide +kernel

theorem witness_UnclassifiedSamples :
    let f := sample3 [pair5 250]
    Receives .s clear ∧ sampleInRange f = true ∧ clear.mode ≠ .filtering
      ∧ Receives .s node ∧ node.mode = .filtering ∧ (∀ p ∈ f.pairs, findKey f.source p.channel node = none)
      ∧ node.defaultPolicy = .pass ∧ { node with defaultPolicy := .drop }.defaultPolicy = .drop := by
  decide +kernel

theorem witness_SampleSettlesBinding :
    let f := sample3 [pair5 250]
    let s := { life bound7 with store := full, forwardQueue := List.replicate 8 kind6 }
    Receives .s s ∧ s.mode = .filtering ∧ sampleInRange f = true ∧ f.pairs = [pair5 250]
      ∧ findKey f.source (pair5 250).channel s = some (7, bound7) ∧ s.activeBank.lookup bound7.profile = some profile2
      ∧ trackingCode bound7.track ≠ 1 := by decide +kernel

/-- 215 has effective zone 2: the candidate count moves to 1, and 2, and at a count of 2 reaches the persistence 3; 150 confirms
zone 1. -/
theorem witness_SampleTracksBinding :
    let s := tracking (some ⟨2, 2⟩)
    (∃ b, findKey 3 5 s = some (7, b) ∧ s.activeBank.lookup b.profile = some former0
        ∧ b.track = .tracking 1 (some ⟨2, 2⟩))
      ∧ Receives .s s ∧ s.mode = .filtering ∧ sampleInRange (sample3 [pair5 215]) = true
      ∧ effectiveZone former0.thresholds former0.hysteresis 1 150 = 1
      ∧ effectiveZone former0.thresholds former0.hysteresis 1 215 = 2 ∧ (1 : Nat) ≠ former0.persistence
      ∧ 2 + 1 = former0.persistence :=
  ⟨⟨_, rfl, rfl, rfl⟩, by decide +kernel⟩

theorem witness_RewrittenFrameIsSubsequence :
    let s := life bound7
    let f := sample3 [pair5 250, pair5 350]
    Receives .s s ∧ sampleInRange f = true ∧ s.mode = .filtering ∧ s.forwardQueue.length < 8
      ∧ f.pairs = [pair5 250] ++ [pair5 350] ∧ [pair5 250] ≠ [] ∧ [pair5 350] ≠ []
      ∧ (∃ t u, exec (.sample { f with pairs := [pair5 250] }) s = .next t
          ∧ exec (.sample { f with pairs := [pair5 350] }) { t with forwardQueue := s.forwardQueue } = .next u)
      ∧ 8 ≤ (List.replicate 8 kind6).length ∧ (∃ t, exec (.sample f) { s with forwardQueue := [] } = .next t)
      ∧ s.cTransmission ≠ none ∧ Receives .s (idleC s) ∧ isUp (idleC s).cLink ∧ (idleC s).cTransmission = none
      ∧ ∃ u, exec (.sample f) { idleC s with cTransmission := some (.forwarded kind6) } = .next u :=
  ⟨by decide, by decide, rfl, by decide, rfl, by simp, by simp, ⟨_, _, rfl, rfl⟩, by decide, ⟨_, rfl⟩, by decide, by decide,
    by decide, rfl, ⟨_, rfl⟩⟩

theorem witness_SampleFrameLeavesTheRest :
    KeyLaw (life bound7) ∧ Receives .s (life bound7) ∧ sampleInRange (sample3 [pair5 250]) = true := by decide +kernel

theorem witness_ZonesFromThresholds : ProfileSound former0 ∧ ProfileSound profile4 := by decide +kernel

theorem witness_FullStoreMergesTransition :
    let s := fullUp
    64 ≤ s.store.length ∧ s.store = List.replicate 63 unsentNotice ++ unsentUp :: [] ∧ unsentUp.delivery = .unsent
      ∧ unsentUp.body = .transition ⟨7, 3, 5⟩ 1 2 250 ∧ s.bindings.lookup 7 = some settled7 ∧ settled7.resync = false := by
  decide +kernel

theorem witness_FullStoreFailsInsertion :
    64 ≤ full.length ∧ (life settled7).bindings.lookup 7 = some settled7
      ∧ (life { settled7 with resync := true }).bindings.lookup 7 = some { settled7 with resync := true }
      ∧ ∀ r ∈ full, ¬ (r.delivery = .unsent ∧ ∃ u, bodySubject r.body = some u ∧ u.index = 7) := by
  refine ⟨by decide +kernel, by decide, by decide, fun r hr => ?_⟩
  rw [List.eq_of_mem_replicate hr]
  rintro ⟨-, u, hu, -⟩
  cases hu

/-- A full store in which a STATE record stands behind the UP record of binding 7, its mark clear. -/
theorem witness_FullStoreFailsInsertion_blocked :
    let newest := { sent 0 with delivery := .unsent }
    let s := { life settled7 with store := List.replicate 62 unsentNotice ++ [unsentUp, newest] }
    64 ≤ s.store.length ∧ s.bindings.lookup 7 = some settled7
      ∧ s.store = (List.replicate 62 unsentNotice ++ [unsentUp]) ++ newest :: [] ∧ newest.delivery = .unsent
      ∧ bodySubject newest.body = some ⟨7, 3, 5⟩ ∧ newest.body = .settled ⟨7, 3, 5⟩ 2 (some 250) .bound := by
  decide +kernel

theorem witness_AckRemovesAcknowledged :
    Receives .c awaiting ∧ awaiting.mode ≠ .unaddressed ∧ NumberingLaw awaiting ∧ awaiting.store.length ≤ 64
      ∧ numberedCount awaiting.store = 2 ∧ awaiting.owedNotices = 0 ∧ (∀ e ∈ awaiting.bindings, e.2.resync = false)
      ∧ Receives .c fullSent ∧ fullSent.mode ≠ .unaddressed ∧ NumberingLaw fullSent ∧ numberedCount fullSent.store = 64
      ∧ 48 < fullSent.store.length - 15 := by decide +kernel

theorem witness_OtherAcksChangeNoRecord :
    Receives .c awaiting ∧ awaiting.mode ≠ .unaddressed ∧ awaiting.address = 12 ∧ NumberingLaw awaiting
      ∧ [(1 : Word), 2].length ≠ 1
      ∧ (516 : Word) = awaiting.nextSequence - BitVec.ofNat 16 (numberedCount awaiting.store)
      ∧ numberedCount awaiting.store < ((519 : Word) - 516).toNat ∧ numberedCount awaiting.store < ((515 : Word) - 516).toNat
      ∧ Receives .c linksUp ∧ linksUp.mode = .unaddressed ∧ (13 : BitVec 6) ≠ awaiting.address := by decide +kernel

/-- 64 records SENT, of which 16 are acknowledged and 48 stand: with no notice owed, 16 marked bindings just fit, and of 20 the
last four are not reached. -/
theorem witness_ResyncPassRestates :
    let marked (n : Nat) : State := { fullSent with
      bindings := (List.range n).map fun k =>
        (Fin.ofNat 256 k, { settled7 with channel := BitVec.ofNat 5 k, resync := true }) }
    let owed := { marked 1 with owedNotices := 4, flags := 4, noticeMask := 4 }
    let met (s : State) : Prop := Receives .c s ∧ s.mode ≠ .unaddressed ∧ NumberingLaw s ∧ KeyLaw s ∧ s.store.length ≤ 64
      ∧ numberedCount s.store = 64 ∧ s.store.length - 16 ≤ 48
    met (marked 16) ∧ met (marked 20) ∧ met owed := by decide +kernel

theorem witness_GrantOrder :
    let s := idleC node
    s.pins = runningPins ∧ isUp s.cLink ∧ s.cTransmission = none
      ∧ { s with responses := [plain 1 2] }.responses = plain 1 2 :: []
      ∧ { s with forwardQueue := [kind6] }.forwardQueue = kind6 :: []
      ∧ (∀ r ∈ s.store, ¬ (r.delivery = .unsent ∨ ∃ n, r.delivery = .resend n))
      ∧ { s with forwardQueue := [kind6], forwardCount := 2 }.forwardCount ≠ 3
      ∧ s.mode ≠ .unaddressed ∧ s.reporter ≠ .stalled
      ∧ (∃ r ∈ { s with store := [sent 1, unsentNotice] }.store, r.delivery = .unsent ∨ ∃ n, r.delivery = .resend n)
      ∧ ¬ isUp State.reset.cLink ∧ node.cTransmission ≠ none
      ∧ ∃ t, exec (.transmissionComplete .c) node = .next t ∧ isUp t.cLink ∧ t.cTransmission = none :=
  ⟨rfl, by decide, rfl, rfl, rfl, by simp [idleC, node, linksUp, State.reset, State.powerOn], by decide, by decide, by decide,
    ⟨unsentNotice, by simp, .inl rfl⟩, by decide, by decide, ⟨_, rfl, by decide, rfl⟩⟩

theorem witness_GrantAssemblesEventFrame :
    let s := { idleC node with store := [sent 1, resend 2, unsentNotice], nextSequence := 3, reporter := .awaiting }
    let busy := { s with forwardQueue := [kind6], forwardCount := 3 }
    Receives .c s ∧ s.cTransmission = none ∧ s.responses = [] ∧ s.forwardQueue = [] ∧ s.mode ≠ .unaddressed
      ∧ s.reporter ≠ .stalled ∧ (∃ r ∈ s.store, r.delivery = .unsent ∨ ∃ n, r.delivery = .resend n) ∧ NumberingLaw s
      ∧ Receives .c busy ∧ busy.forwardCount = 3 ∧ NumberingLaw busy :=
  ⟨by decide, rfl, rfl, rfl, by decide, by decide, ⟨unsentNotice, by simp, .inl rfl⟩, by decide +kernel, by decide, rfl,
    by decide +kernel⟩

theorem witness_TransmissionsBeginAndComplete :
    linksUp.pins = runningPins ∧ isUp linksUp.sLink ∧ linksUp.sTransmission = none ∧ ¬ isUp State.reset.sLink
      ∧ (idleC linksUp).cTransmission = none ∧ linksUp.returnQueue = []
      ∧ { linksUp with sTransmission := some kind6 }.sTransmission ≠ none
      ∧ { linksUp with returnQueue := [kind6] }.returnQueue = kind6 :: []
      ∧ { linksUp with cTransmission := some (.forwarded kind6) }.cTransmission = some (.forwarded kind6)
      ∧ { linksUp with cTransmission := some (.response kind6) }.cTransmission = some (.response kind6)
      ∧ { linksUp with cTransmission := some (.event kind6 [1]) }.cTransmission = some (.event kind6 [1]) := by
  decide +kernel

theorem witness_TickOutsideFiltering :
    clear.pins = runningPins ∧ clear.mode ≠ .filtering ∧ clear.ackTimer = none
      ∧ { clear with ackTimer := some 2 }.ackTimer = some 2 ∧ 2 ≤ 2
      ∧ { awaiting with mode := .transparent }.ackTimer = some 1
      ∧ { awaiting with retryCount := 3 }.retryCount < awaiting.retryLimit
      ∧ { awaiting with retryCount := 4 }.retryCount = awaiting.retryLimit := by decide +kernel

theorem witness_TickDecrementPass :
    let s := { life { settled7 with countdown := 1 } with store := full }
    s.pins = runningPins ∧ s.mode = .filtering ∧ KeyLaw s ∧ s.ackTimer = none
      ∧ { s with ackTimer := some 2 }.ackTimer = some 2 ∧ 2 ≤ 2 ∧ { s with ackTimer := some 1 }.ackTimer = some 1
      ∧ s.retryCount < s.retryLimit ∧ { s with retryCount := 4 }.retryCount = s.retryLimit := by decide +kernel

theorem witness_SilenceExpiryMakesStale :
    let b := { settled7 with countdown := 1 }
    let s := life b
    s.pins = runningPins ∧ s.mode = .filtering ∧ s.bindings.lookup 7 = some b ∧ b.limit ≠ 0 ∧ trackingCode b.track ≠ 2
      ∧ b.countdown = 1 ∧ b.report = true ∧ { b with report := false }.report = false ∧ s.store.length < 64
      ∧ 64 ≤ full.length ∧ hasFlag 4 .eventLoss = true ∧ clear.mode ≠ .filtering ∧ 1 < { b with countdown := 2 }.countdown
      ∧ { b with limit := 0 }.limit = 0 ∧ trackingCode (.stale none) = 2 := by decide +kernel

theorem witness_AckTimerExpiryResendsOrStalls :
    awaiting.pins = runningPins ∧ awaiting.ackTimer = some 1 ∧ node.ackTimer = none
      ∧ { awaiting with ackTimer := some 2 }.ackTimer = some 2 ∧ 2 ≤ 2
      ∧ { awaiting with retryCount := 3 }.retryCount < awaiting.retryLimit
      ∧ { awaiting with retryCount := 4 }.retryCount = awaiting.retryLimit := by decide +kernel

theorem witness_EnumGivesAddress :
    Receives .c linksUp ∧ (1 : BitVec 6) ≠ 0 ∧ (62 : BitVec 6) ≠ 63
      ∧ (List.replicate 64 (0 : Word)).length ≤ 64 := by decide +kernel

theorem witness_ChainResetState : Receives .c awaiting ∧ ([] : List Word).length ≤ 64 := by decide +kernel

/-- A request that reaches test 4 of R165, for every command code. -/
theorem witness_Executes (code : BitVec 8) (operands : List Word) (h : operands.length < 64) :
    Executes code (request 1 operands) (life settled7) :=
  ⟨⟨⟨by decide, h⟩, by decide, rfl⟩, by simp [repeatsCommit, life, node, linksUp, State.reset, State.powerOn], by decide, rfl⟩

theorem witness_SetModeChangesMode :
    (life settled7).mode = .filtering ∧ (life settled7).sweep = none ∧ clear.mode = .transparent
      ∧ Executes 4 (request 1 [2]) clear ∧ (0 : Word) ≠ 1 ∧ (3 : Word) ≠ 2 := by decide +kernel

theorem witness_RestartState :
    let s := { awaiting with
      responses := [plain 68 2, plain 69 2], sweep := some ⟨70, false⟩, cTransmission := some (.forwarded kind6) }
    let filled := { s with responses := [plain 67 2, plain 68 2, plain 69 2] }
    Executes 5 (request 71 []) s ∧ s.responses.length + (abortedCommit s).length < 4
      ∧ Executes 5 (request 71 []) filled ∧ filled.responses.length + (abortedCommit filled).length = 4 := by decide +kernel

theorem witness_UnknownAndMalformed :
    (7 : BitVec 8) ∉ definedCodes ∧ Executes 7 (request 23 []) node ∧ Executes 16 (request 1 []) node
      ∧ operandCountFits .bind [] = false := by decide +kernel

theorem witness_WritesAreBusyDuringSweep :
    let s := { node with sweep := some ⟨43, false⟩ }
    s.sweep.isSome ∧ Executes 35 (request 44 []) s ∧ operandCountFits .commit [] = true
      ∧ Executes 33 (request 44 [99]) s ∧ operandCountFits .clearProfile [99] = true := by decide +kernel

theorem witness_UnicastTestsBeforeExecution :
    let s := { node with sweep := some ⟨43, false⟩, cache := [plain 21 19] }
    ReachesAgent (request 43 []) s ∧ (∃ w, s.sweep = some w ∧ w.tag = 43)
      ∧ repeatsCommit (commandCode .readBinding) 21 s = false ∧ s.responses.length < 4 ∧ plain 21 19 ∈ s.cache ∧ CacheLaw s
      ∧ (plain 21 19).code = commandCode .readBinding ∧ 4 ≤ (List.replicate 4 (plain 1 2)).length
      ∧ (7 : BitVec 8) ∉ definedCodes :=
  ⟨by decide +kernel, ⟨_, rfl, rfl⟩, by decide +kernel⟩

theorem witness_BroadcastRequests :
    let all (operands : List Word) : Request := { request 1 operands with address := 63 }
    Arrives (all [1]) node ∧ node.mode ≠ .unaddressed ∧ node.address ≠ 63 ∧ node.mode = .filtering ∧ clear.mode = .transparent
      ∧ node.sweep = none ∧ node.responses.length < 4 ∧ Arrives (all []) node ∧ Arrives (all [2]) clear
      ∧ (∀ e ∈ node.bindings, (node.shadowBank.lookup e.2.profile).isSome)
      ∧ (∃ e ∈ (life settled7).bindings, (life settled7).shadowBank.lookup e.2.profile = none)
      ∧ (all [1, 1]).operands.length ≠ 1 ∧ { node with sweep := some ⟨43, false⟩ }.sweep ≠ none ∧ (all [1]).operands ≠ []
      ∧ (3 : Word) ≠ 1 ∧ (0 : Word) ≠ 2
      ∧ 4 ≤ { node with responses := List.replicate 4 (plain 1 2) }.responses.length
      ∧ linksUp.mode = .unaddressed ∧ (13 : BitVec 6) ≠ node.address ∧ (13 : BitVec 6) ≠ 63
      ∧ (7 : BitVec 8) ∉ definedCodes := by decide +kernel

theorem witness_CacheEntryIsMade :
    let cache := [plain 18 2, plain 19 1, plain 20 19, plain 21 19]
    cache.length = 4 ∧ (cache.map Response.tag).Pairwise (· ≠ ·) ∧ (∃ e ∈ cache, e.tag = (plain 21 16).tag)
      ∧ (∀ e ∈ cache, e.tag ≠ (plain 22 19).tag) ∧ cache.tail.length < 4 := by decide +kernel

theorem witness_IdentifyAndReadStatus :
    Executes 1 (request 1 []) node ∧ Executes 2 (request 1 []) clear := by decide +kernel

theorem witness_ClearStatusClearsMask :
    Executes 3 (request 25 [511]) node ∧ (511 : Word).toNat ≤ 511 ∧ 511 < (512 : Word).toNat := by decide +kernel

theorem witness_SettingCommandsReplaceSetting :
    Executes 48 (request 1 [3]) node ∧ (3 : Word).toNat ≤ 3 ∧ 3 < (4 : Word).toNat ∧ Executes 51 (request 1 [511]) node
      ∧ Executes 52 (request 1 [3]) node ∧ (1 : Word) ≠ 0 ∧ (1 : Word) ≠ 3 := by decide +kernel

theorem witness_DeliveryCommands :
    Executes 49 (request 1 [255, 15]) node ∧ (255 : Word).toNat ≤ 255 ∧ 1 ≤ (1 : Word).toNat ∧ (15 : Word).toNat ≤ 15
      ∧ 255 < (256 : Word).toNat ∧ (0 : Word).toNat < 1 ∧ 15 < (16 : Word).toNat
      ∧ Executes 50 (request 1 []) { awaiting with reporter := .stalled, ackTimer := none }
      ∧ { awaiting with reporter := .stalled }.reporter = .stalled ∧ node.reporter ≠ .stalled := by decide +kernel

theorem witness_BindChecksAndBinds :
    Executes 16 (request 1 [255, 62, 31, 31, 3, 255, 1, 65535]) (life settled7) ∧ (life settled7).sweep = none
      ∧ (life settled7).bindings.lookup 7 ≠ none ∧ (life settled7).bindings.lookup 9 = none
      ∧ (∃ e ∈ (life settled7).bindings, e.2.source.toNat = 3 ∧ e.2.channel.toNat = 5)
      ∧ (¬ ∃ e ∈ (life settled7).bindings, e.2.source.toNat = 62 ∧ e.2.channel.toNat = 31)
      ∧ (life settled7).activeBank.lookup 31 = none ∧ (life settled7).activeBank.lookup 2 ≠ none := by decide +kernel

theorem witness_UnbindFreesEntry :
    Executes 17 (request 1 [7]) (life settled7) ∧ (life settled7).sweep = none ∧ (life settled7).bindings.lookup 7 ≠ none
      ∧ (life settled7).bindings.lookup 255 = none ∧ 255 < (256 : Word).toNat := by decide +kernel

theorem witness_ModifyBindingChangesFields :
    Executes 18 (request 1 [7, 31, 4, 3, 255, 1, 65535]) (life settled7) ∧ (life settled7).sweep = none
      ∧ [7, 31, 4, 3, 255, 1, 65535]
          = 7 :: 31 :: [some (4 : Word), some 3, some 255, some 1, some 65535].reduceOption
      ∧ (31 : Word).toNat % 32 = 1 + 2 + 4 + 8 + 16 ∧ (life settled7).bindings.lookup 7 = some settled7
      ∧ (life settled7).activeBank.lookup 4 ≠ none ∧ (life settled7).activeBank.lookup 31 = none
      ∧ Executes 18 (request 1 [8, 0]) (life settled7) ∧ [8, 0] = 8 :: 0 :: ([none, none] : List (Option Word)).reduceOption
      ∧ (life settled7).bindings.lookup 8 = none ∧ Executes 18 (request 1 [7, 32]) (life settled7) ∧ (32 : Word).toNat % 32 = 0
      ∧ 31 < (32 : Word).toNat ∧ 255 < (256 : Word).toNat := by decide +kernel

theorem witness_ReadBindingReadsAndClears :
    Executes 19 (request 1 [7, 1]) (life settled7) ∧ (life settled7).bindings.lookup 7 = some settled7
      ∧ (life settled7).bindings.lookup 255 = none ∧ 255 < (256 : Word).toNat ∧ 1 < (2 : Word).toNat := by decide +kernel

/-- A span of two thresholds with step 8192: from 24576 it ends at 32768, from 24575 at 32767. -/
theorem witness_LoadProfileWritesShadow :
    Executes 32 (request 1 [31, 0, 4095, 15, 3, 1, 100]) node ∧ node.sweep = none
      ∧ Executes 32 (request 1 [31, 0, 4095, 15, 3, 2, 200, 200]) node
      ∧ (¬ [(200 : Word), 200].Pairwise fun a b => a.signed < b.signed)
      ∧ Executes 32 (request 1 [0, 1, 0, 1, 0, 24576, 8192, 2]) node
      ∧ 32767 < (24576 : Word).signed + (((2 : Word).toNat : Int) - 1) * (8192 : Word).toNat
      ∧ (24575 : Word).signed + (((2 : Word).toNat : Int) - 1) * (8192 : Word).toNat ≤ 32767
      ∧ 8192 < (8193 : Word).toNat ∧ 15 < (16 : Word).toNat ∧ (2 : Word) ≠ 1
      ∧ Executes 32 (request 1 [31, 2, 0, 1, 0, 1, 100]) node ∧ 4095 < (4096 : Word).toNat := by decide +kernel

theorem witness_ProfileStoreCommands :
    Executes 33 (request 1 [31]) (life settled7) ∧ 31 < (32 : Word).toNat ∧ Executes 34 (request 1 []) (life settled7)
      ∧ Executes 36 (request 1 [1, 31]) (life settled7) ∧ (life settled7).shadowBank.lookup 31 = none
      ∧ (life settled7).activeBank.lookup 2 = some profile2 ∧ 1 < (2 : Word).toNat := by decide +kernel

theorem witness_CommitChecksAndBegins :
    Executes 35 (request 43 []) (life settled7) ∧ (life settled7).sweep = none ∧ KeyLaw (life settled7)
      ∧ (life settled7).shadowBank.lookup settled7.profile = none ∧ Executes 35 (request 43 []) node ∧ KeyLaw node := by
  decide +kernel

theorem witness_CommitChecksAndBegins_lowest :
    ((life settled7).bindings.lookup 7 = some settled7
      ∧ ∀ j c, (life settled7).bindings.lookup j = some c → j < 7 → ((life settled7).shadowBank.lookup c.profile).isSome)
    ∧ ∀ i b, node.bindings.lookup i = some b → (node.shadowBank.lookup b.profile).isSome := by
  refine ⟨⟨by decide, fun j c h hj => ?_⟩, fun i b h => by cases h⟩
  have hm := Table.mem_of_lookup h
  simp only [life, List.mem_singleton, Prod.mk.injEq] at hm
  exact absurd (hm.1 ▸ hj) (lt_irrefl _)

theorem witness_SweepEndExchangesBanks :
    node.pins = runningPins ∧ node.sweep = none
      ∧ { node with sweep := some ⟨43, true⟩ }.sweep = some { tag := 43, broadcast := true }
      ∧ { node with sweep := some ⟨43, false⟩ }.sweep = some { tag := 43, broadcast := false }
      ∧ node.responses.length < 4 ∧ 4 ≤ (List.replicate 4 (plain 1 2)).length := by decide +kernel

theorem witness_FrameWordsReadBack :
    (⟨6, 0, 0, List.replicate 64 0⟩ : Frame).payload.length ≤ 64 ∧ (0x220C : Word) ≠ crc (coveredWords ⟨8, 5, 0, [518]⟩)
      ∧ (sample3 (List.replicate 16 (pair5 1))).pairs.length ≤ 16
      ∧ { unsentUp with delivery := .sent 500 }.delivery = .sent 500 ∧ unsentUp.mergeCount ≤ 255
      ∧ { unsentUp with body := .transition ⟨7, 3, 5⟩ 15 15 250 }.body = .transition ⟨7, 3, 5⟩ 15 15 250
      ∧ (sent 500).body = .settled ⟨7, 3, 5⟩ 2 (some 250) .bound ∧ unsentNotice.body = .notice .ackFault
      ∧ (∀ a ∈ (none : Option Nat), a ≤ 15) ∧ (plain 1 2).results.length ≤ 60 := by
  decide +kernel

theorem witness_WordsDoWhatCommandsDo :
    Instr.wellFormed (.sample (sample3 (List.replicate 16 (pair5 1)))) = true
      ∧ Instr.wellFormed (.unknownCommand 7 (request 23 [])) = true
      ∧ Instr.wellFormed (requestCommand .commit (request 43 [])) = true := by decide +kernel

theorem witness_OnlyTheirCommandsChangeThem :
    (∃ t, exec .tick node = .next t) ∧ node.pins = runningPins ∧ (∀ p, Instr.tick ≠ .powerOn p)
      ∧ Instr.commitSweepEnd ≠ .tick :=
  ⟨⟨_, rfl⟩, rfl, fun _ => by simp, by decide⟩

/-- A state with a binding, two profiles and a command waiting, which meets every law. -/
def lawful : State := { life settled7 with pending := [.tick] }

theorem witness_StepKeepsAddressLaw : AddressLaw lawful ∧ HeldLaw lawful := by decide +kernel

theorem witness_StepKeepsCapacities :
    CapacityLaw lawful ∧ CacheLaw lawful ∧ PortLaw lawful ∧ PortLaw (idleC lawful) := by decide +kernel

theorem witness_StepKeepsDeliveryLaw :
    DeliveryLaw lawful ∧ DeliveryLaw { awaiting with pending := [.cPortGrant] } := by decide +kernel

theorem witness_StepKeepsBindingLaws : KeyLaw lawful ∧ EntryLaw lawful := by decide +kernel

theorem witness_StepKeepsProfileLaws : BankLaw lawful ∧ ProfileLaw lawful := by decide +kernel

theorem witness_StepKeeps_step : ∃ t, step lawful = .next t := ⟨_, rfl⟩

end Sys2Proof.Tests
end

/-! READ_BINDING (R20, R21): what the request does for each outcome of its checks, and how the agent answers it. -/

namespace Sys2Proof.Machine

open Sys2Proof.Safety

/-- The binding index of an operand in range is the operand, read back as a word. -/
theorem present_indexOf {index : Word} (h : index.toNat ≤ 255) : present (indexOf index).val = some index := by
  have hval : (indexOf index).val = index.toNat := Nat.mod_eq_of_lt (by omega)
  rw [present, hval, BitVec.ofNat_toNat, BitVec.setWidth_eq]

/-- The range check of READ_BINDING passes exactly for an index up to 255 and a flag up to 1 (R20). -/
theorem readBinding_inRange_iff {index clear : Word} :
    (inRange 0 255 index && inRange 0 1 clear) = true ↔ index.toNat ≤ 255 ∧ clear.toNat ≤ 1 := by
  simp [inRange]

theorem readBindingRequest_outOfRange {index clear : Word} (s : State) (h : 255 < index.toNat ∨ 1 < clear.toNat) :
    readBindingRequest [index, clear] s = refuse .range s := by
  have hr : ¬ (inRange 0 255 index && inRange 0 1 clear) = true := by rw [readBinding_inRange_iff]; omega
  rw [readBindingRequest, Bool.eq_false_iff.mpr hr]
  rfl

theorem readBindingRequest_free {index clear : Word} {s : State} (hi : index.toNat ≤ 255) (hc : clear.toNat ≤ 1)
    (hl : s.bindings.lookup (indexOf index) = none) :
    readBindingRequest [index, clear] s = refuse .noEntry s := by
  rw [readBindingRequest, readBinding_inRange_iff.mpr ⟨hi, hc⟩, hl]
  rfl

theorem readBindingRequest_bound {index clear : Word} {s : State} {b : Binding} (hi : index.toNat ≤ 255)
    (hc : clear.toNat ≤ 1) (hl : s.bindings.lookup (indexOf index) = some b) :
    readBindingRequest [index, clear] s =
      (if clear = 1 then setBinding (indexOf index) (clearLatches b) s else s,
        .answer .ok (bindingResults (indexOf index) b)) := by
  rw [readBindingRequest, readBinding_inRange_iff.mpr ⟨hi, hc⟩, hl]
  rfl

/-- The agent hands the two operands of an accepted READ_BINDING to its block and answers with what that returns. -/
theorem exec_readBinding_executes {r : Request} {index clear : Word} {s : State} (h : Executes 19 r s)
    (hops : r.operands = [index, clear]) :
    exec (.readBinding r) s =
      .next (grantStep (answerRequest 19 r (readBindingRequest [index, clear] (setLink .c (.up 0 false) s)))) := by
  have hcount : operandCountFits .readBinding r.operands = true := by rw [hops]; rfl
  have hrun : executeRequest 19 r false (setLink .c (.up 0 false) s)
      = readBindingRequest [index, clear] (setLink .c (.up 0 false) s) := by
    rw [show (19 : BitVec 8) = commandCode .readBinding from rfl, executeRequest_command, if_pos hcount, hops]
    rfl
  rw [← hrun, ← receiveRequest_executes h]
  rfl

/-- A request that only reads: the response and its cache entry are all that it leaves. -/
theorem answerRequest_read {code : BitVec 8} {r : Request} {s : State} {status : Status} {results : List (Option Word)}
    (h : s.responses.length < 4) :
    answerRequest code r (setLink .c (.up 0 false) s, .answer status results) = answered code r.tag status results s :=
  answerRequest_of_room h

/-- A request that writes one binding: beside it, the response and its cache entry are all that it leaves. -/
theorem answerRequest_setBinding {code : BitVec 8} {r : Request} {s : State} {status : Status}
    {results : List (Option Word)} (i : Fin 256) (b : Binding) (h : s.responses.length < 4) :
    answerRequest code r (setBinding i b (setLink .c (.up 0 false) s), .answer status results) =
      { answered code r.tag status results s with bindings := s.bindings.put i b } :=
  answerRequest_of_room h

/-- Settles O47, by the cases of the request's checks: out of range, a free entry, a bound entry read without and with
the clear flag. -/
theorem readBindingReadsAndClears : Obligations.ReadBindingReadsAndClears := by
  intro r index clear s h hops
  have hexec := exec_readBinding_executes h hops
  have hroom : s.responses.length < 4 := h.2.2.1
  refine ⟨fun hout => ?outOfRange, fun hi hc hl => ?free, fun b hi hl => ⟨fun hc => ?kept, fun hc => ?cleared⟩⟩
  case outOfRange => rw [hexec, readBindingRequest_outOfRange _ hout, answerRequest_refuse hroom]
  case free =>
    have hl' : (setLink .c (.up 0 false) s).bindings.lookup (indexOf index) = none := hl
    rw [hexec, readBindingRequest_free hi hc hl', answerRequest_refuse hroom]
  all_goals
    have hl' : (setLink .c (.up 0 false) s).bindings.lookup (indexOf index) = some b := hl
    subst hc
    rw [hexec, readBindingRequest_bound hi (by decide) hl', bindingResults, present_indexOf hi]
  case kept => rw [if_neg (by decide), answerRequest_read hroom]; rfl
  case cleared => rw [if_pos rfl, answerRequest_setBinding _ _ hroom]; rfl

end Sys2Proof.Machine

/-! Zones from thresholds (R53, R54): a count over an increasing list is the length of the prefix that is passed. Both zones
are such counts, the raw one over the thresholds and the effective one over the shifted thresholds. -/

namespace Sys2Proof.Machine

open Sys2Proof.Safety

/-- Where a predicate, once false along a list, stays false, its count is the length of the prefix on which it holds. -/
theorem getElem_iff_lt_countP {α : Type} {p : α → Bool} {l : List α} (hl : l.Pairwise fun a b => p b → p a)
    (j : Nat) (hj : j < l.length) : p l[j] ↔ j < l.countP p := by
  induction l generalizing j with
  | nil => simp at hj
  | cons a l ih =>
    obtain ⟨hhead, htail⟩ := List.pairwise_cons.mp hl
    by_cases ha : p a
    · rw [List.countP_cons_of_pos ha]
      cases j with
      | zero => simp [ha]
      | succ j => simpa using ih htail j (by simpa using hj)
    · have hnone : ∀ b ∈ a :: l, ¬ p b := by
        simpa [ha] using fun b hb hpb => ha (hhead b hb hpb)
      rw [List.countP_eq_zero.mpr hnone]
      simpa using hnone _ (List.getElem_mem hj)

/-- R53: of increasing thresholds a value passes those numbered below its raw zone. -/
theorem passes_iff_lt_rawZone {thresholds : List Word} (value : Word)
    (hinc : thresholds.Pairwise fun a b => a.signed < b.signed) (j : Nat) (hj : j < thresholds.length) :
    (thresholds[j]).signed ≤ value.signed ↔ j < rawZone thresholds value := by
  have hprefix : thresholds.Pairwise fun a b =>
      decide (b.signed ≤ value.signed) → decide (a.signed ≤ value.signed) :=
    hinc.imp fun hab hb => decide_eq_true (hab.le.trans (of_decide_eq_true hb))
  rw [rawZone, ← getElem_iff_lt_countP hprefix j hj, decide_eq_true_iff]

/-- R54: shifting keeps the order of the thresholds, since the lowered ones stand before the raised ones. -/
theorem shiftedThreshold_lt (hysteresis zone : Nat) {j k : Nat} {a b : Word} (hjk : j < k)
    (hab : a.signed < b.signed) : shiftedThreshold hysteresis zone j a < shiftedThreshold hysteresis zone k b := by
  unfold shiftedThreshold
  split_ifs <;> omega

/-- R54: of increasing thresholds a value passes, shifted, those numbered below its effective zone. -/
theorem passes_shifted_iff_lt_effectiveZone {thresholds : List Word} (hysteresis zone : Nat) (value : Word)
    (hinc : thresholds.Pairwise fun a b => a.signed < b.signed) (j : Nat) (hj : j < thresholds.length) :
    shiftedThreshold hysteresis zone j thresholds[j] ≤ value.signed
      ↔ j < effectiveZone thresholds hysteresis zone value := by
  have hprefix : thresholds.zipIdx.Pairwise fun e f =>
      decide (shiftedThreshold hysteresis zone f.2 f.1 ≤ value.signed)
        → decide (shiftedThreshold hysteresis zone e.2 e.1 ≤ value.signed) := by
    rw [List.pairwise_iff_getElem] at hinc ⊢
    intro i k hi hk hik hpass
    rw [List.length_zipIdx] at hi hk
    simp only [List.getElem_zipIdx, Nat.zero_add, decide_eq_true_iff] at hpass ⊢
    exact (shiftedThreshold_lt hysteresis zone hik (hinc i k hi hk hik)).le.trans hpass
  rw [effectiveZone, ← getElem_iff_lt_countP hprefix j (by rwa [List.length_zipIdx]), decide_eq_true_iff]
  simp only [List.getElem_zipIdx, Nat.zero_add]

theorem rawZone_le_length (thresholds : List Word) (value : Word) : rawZone thresholds value ≤ thresholds.length :=
  List.countP_le_length

theorem effectiveZone_le_length (thresholds : List Word) (hysteresis zone : Nat) (value : Word) :
    effectiveZone thresholds hysteresis zone value ≤ thresholds.length :=
  List.countP_le_length.trans_eq List.length_zipIdx

/-- A value keeps a zone exactly where it passes the lowered threshold under the zone and not the raised one above it. -/
theorem effectiveZone_eq_self_iff {thresholds : List Word} {hysteresis zone : Nat} {value : Word}
    (hinc : thresholds.Pairwise fun a b => a.signed < b.signed) (hzone : zone ≤ thresholds.length) :
    effectiveZone thresholds hysteresis zone value = zone ↔
      (∀ h : 0 < zone ∧ zone - 1 < thresholds.length,
        (thresholds[zone - 1]'h.2).signed - hysteresis ≤ value.signed)
      ∧ ∀ h : zone < thresholds.length, value.signed < (thresholds[zone]).signed + hysteresis := by
  have hpasses := passes_shifted_iff_lt_effectiveZone hysteresis zone value hinc
  have hlower : ∀ h : 0 < zone ∧ zone - 1 < thresholds.length,
      ((thresholds[zone - 1]'h.2).signed - hysteresis ≤ value.signed
        ↔ zone - 1 < effectiveZone thresholds hysteresis zone value) := by
    intro h
    rw [← hpasses (zone - 1) h.2, shiftedThreshold, if_pos (by omega)]
  have hupper : ∀ h : zone < thresholds.length,
      (value.signed < (thresholds[zone]).signed + hysteresis
        ↔ effectiveZone thresholds hysteresis zone value ≤ zone) := by
    intro h
    rw [← not_lt, ← hpasses zone h, shiftedThreshold, if_neg (lt_irrefl zone), not_le]
  have hle := effectiveZone_le_length thresholds hysteresis zone value
  constructor
  · intro heq
    exact ⟨fun h => (hlower h).mpr (by omega), fun h => (hupper h).mpr heq.le⟩
  · rintro ⟨hlow, hup⟩
    have hge : zone ≤ effectiveZone thresholds hysteresis zone value := by
      by_cases hpos : 0 < zone
      · have hin : 0 < zone ∧ zone - 1 < thresholds.length := ⟨hpos, by omega⟩
        have := (hlower hin).mp (hlow hin)
        omega
      · omega
    by_cases hlt : zone < thresholds.length
    · exact le_antisymm ((hupper hlt).mp (hup hlt)) hge
    · omega

/-- Settles O18: both zones are prefix counts of an increasing list, and the band follows from the two thresholds that
enclose the zone. -/
theorem zonesFromThresholds : Obligations.ZonesFromThresholds := by
  intro p value hsound
  obtain ⟨-, -, hinc, -, -, -⟩ := hsound
  refine ⟨rawZone_le_length _ _, passes_iff_lt_rawZone value hinc, fun zone hzone =>
    ⟨fun j k hj hk hjk => ?increasing, effectiveZone_le_length _ _ _ _,
      passes_shifted_iff_lt_effectiveZone p.hysteresis zone value hinc, effectiveZone_eq_self_iff hinc hzone⟩⟩
  case increasing =>
    exact shiftedThreshold_lt p.hysteresis zone hjk (List.pairwise_iff_getElem.mp hinc j k hj hk hjk)

end Sys2Proof.Machine

/-! The merge at a full store (R96, R97): the search runs from the newest record back, passes over the records that are not
UNSENT records of the binding, and ends at the first that is. -/

namespace Sys2Proof.Machine

theorem unsentOf_iff {i : Fin 256} {r : Record} :
    unsentOf i r = true ↔ r.delivery = .unsent ∧ ∃ u, bodySubject r.body = some u ∧ u.index = i := by
  simp [unsentOf, Option.any_eq_true]

/-- R96: the search passes over the records that are not UNSENT records of the binding. -/
theorem mergeNewest_append {i : Fin 256} {newer : List Record} (toZone : Nat) (value : Word) (now : BitVec 32)
    (older : List Record) (h : ∀ r ∈ newer, ¬ unsentOf i r = true) :
    mergeNewest i toZone value now (newer ++ older)
      = (mergeNewest i toZone value now older).map fun rest => newer ++ rest := by
  induction newer with
  | nil => simp
  | cons r newer ih =>
    obtain ⟨hr, hrest⟩ := List.forall_mem_cons.mp h
    rw [List.cons_append, mergeNewest, if_neg hr, ih hrest, Option.map_map]
    rfl

/-- R96, R97: an UNSENT transition record of the binding ends the search, and is merged into. -/
theorem mergeNewest_target {i : Fin 256} {target : Record} {own : Subject} {a z : Nat} {v : Word} (toZone : Nat)
    (value : Word) (now : BitVec 32) (older : List Record) (hunsent : unsentOf i target = true)
    (hbody : target.body = .transition own a z v) :
    mergeNewest i toZone value now (target :: older) = some (mergedRecord target own a toZone value now :: older) := by
  rw [mergeNewest, if_pos hunsent, hbody]

theorem resyncPending_of_lookup {i : Fin 256} {s : State} {b : Binding} (h : s.bindings.lookup i = some b) :
    resyncPending i s = b.resync := by
  rw [resyncPending, h, Option.any_some]

/-- R96, R97: where the mark is clear and the newest UNSENT record of the binding is a transition record, that record alone
changes, in its place. -/
theorem mergeIntoStore_target {i : Fin 256} {s : State} {older newer : List Record} {target : Record} {own : Subject}
    {a z : Nat} {v : Word} (toZone : Nat) (value : Word) (hclear : resyncPending i s = false)
    (hstore : s.store = older ++ target :: newer) (hunsent : unsentOf i target = true)
    (hbody : target.body = .transition own a z v) (hnewer : ∀ r ∈ newer, ¬ unsentOf i r = true) :
    mergeIntoStore i toZone value s
      = some (older ++ mergedRecord target own a toZone value s.tickCount :: newer) := by
  have hreverse : s.store.reverse = newer.reverse ++ target :: older.reverse := by simp [hstore]
  have hskip : ∀ r ∈ newer.reverse, ¬ unsentOf i r = true := fun r hr => hnewer r (List.mem_reverse.mp hr)
  rw [mergeIntoStore, hclear, hreverse, mergeNewest_append _ _ _ _ hskip, mergeNewest_target _ _ _ _ hunsent hbody]
  simp

/-- R97: a transition with a merge target, offered to a full store, leaves the store merged, and nothing else changed. -/
theorem offerRecord_of_merged {s : State} {subject : Subject} {toZone : Nat} {value : Word} {merged : List Record}
    (fromZone : Nat) (hfull : 64 ≤ s.store.length)
    (hmerged : mergeIntoStore subject.index toZone value s = some merged) :
    offerRecord (.transition subject fromZone toZone value) s = { s with store := merged } := by
  have hroom : ¬ s.store.length < Config.storeCapacity := not_lt.mpr hfull
  simp only [offerRecord, if_neg hroom, hmerged]

/-- Settles O19: the newest UNSENT record of the binding is the target that the search finds, and the merge rewrites it in
its place; the kind is that of the kept from-zone and the new to-zone. -/
theorem fullStoreMergesTransition : Obligations.FullStoreMergesTransition := by
  intro s older newer target subject own a z fromZone toZone v value b hfull hstore hunsent hbody hindex hnewer hlookup
    hclear
  have htarget : unsentOf subject.index target = true :=
    unsentOf_iff.mpr ⟨hunsent, own, by rw [hbody, bodySubject], hindex⟩
  have hskip : ∀ r ∈ newer, ¬ unsentOf subject.index r = true := fun r hr hr' => hnewer r hr (unsentOf_iff.mp hr')
  have hmark : resyncPending subject.index s = false := (resyncPending_of_lookup hlookup).trans hclear
  refine ⟨?merged, rfl⟩
  case merged =>
    rw [offerRecord_of_merged fromZone hfull (mergeIntoStore_target toZone value hmark hstore htarget hbody hskip),
      mergedRecord, hunsent]

end Sys2Proof.Machine

/-! The tests that a unicast request meets before its execution (R165 to R167, R39): each test that decides ends the request
with its own effect. -/

namespace Sys2Proof.Machine

open Sys2Proof.Safety

theorem repeatsCommit_iff {code tag : BitVec 8} {s : State} :
    repeatsCommit code tag s = true ↔ code = 35 ∧ ∃ w, s.sweep = some w ∧ w.tag = tag := by
  simp [repeatsCommit, commandCode, Option.any_eq_true]

/-- The tags of a lawful cache differ, so that the search for a tag and command code finds their one entry (R167). -/
theorem cachedResponse_of_mem {s : State} {e : Response} (hlaw : CacheLaw s) (he : e ∈ s.cache) :
    cachedResponse e.code e.tag s = some e := by
  have hfound : (cachedResponse e.code e.tag s).isSome := List.find?_isSome.mpr ⟨e, he, by simp⟩
  obtain ⟨found, hsome⟩ := Option.isSome_iff_exists.mp hfound
  have htag : found.tag = e.tag := by
    have hmatch := List.find?_some hsome
    rw [Bool.and_eq_true, beq_iff_eq] at hmatch
    exact hmatch.1
  have hsame : found = e := List.inj_on_of_nodup_map hlaw (List.mem_of_find?_eq_some hsome) he htag
  rw [hsome, hsame]

/-- R39: a repeat of the COMMIT of the running sweep is ignored. -/
theorem takeUnicast_of_repeat {code : BitVec 8} {r : Request} {s : State} (h : repeatsCommit code r.tag s = true) :
    takeUnicast code r s = s := if_pos h

/-- R166: a full response queue discards the request, whatever the cache holds. -/
theorem takeUnicast_of_full {code : BitVec 8} {r : Request} {s : State} (hrep : repeatsCommit code r.tag s = false)
    (hfull : 4 ≤ s.responses.length) : takeUnicast code r s = raiseFlag .mgmtOverrun s := by
  rw [takeUnicast, if_neg (Bool.eq_false_iff.mp hrep)]
  exact if_pos hfull

/-- R167: a cached response is queued again, and the request is not executed. -/
theorem takeUnicast_of_cached {code : BitVec 8} {r : Request} {s : State} {e : Response}
    (hrep : repeatsCommit code r.tag s = false) (hroom : s.responses.length < 4)
    (hcached : cachedResponse code r.tag s = some e) :
    takeUnicast code r s = { s with responses := s.responses ++ [e] } := by
  have hnotFull : ¬ Config.agentCapacity ≤ s.responses.length := not_le.mpr hroom
  rw [takeUnicast, if_neg (Bool.eq_false_iff.mp hrep), if_neg hnotFull, hcached]

/-- Settles O37: the request meets the tests of R165 whatever command it is, and in each case one of them decides it. -/
theorem unicastTestsBeforeExecution : Obligations.UnicastTestsBeforeExecution := by
  intro i code r s hreach hcommand
  have hreceive : exec i s = receiveRequest code r s := by
    rcases hcommand with ⟨c, rfl, rfl⟩ | ⟨-, rfl⟩
    · exact exec_requestCommand c r s
    · rfl
  rw [hreceive, receiveRequest_reaches hreach]
  refine ⟨fun hcode hsweep => ?repeated, fun hrep hfull => ?full, fun e hrep hroom he hlaw htag hcode => ?cached⟩
  case repeated =>
    have hrep : repeatsCommit code r.tag (setLink .c (.up 0 false) s) = true := repeatsCommit_iff.mpr ⟨hcode, hsweep⟩
    rw [takeUnicast_of_repeat hrep]
    rfl
  case full =>
    have hrep' : repeatsCommit code r.tag (setLink .c (.up 0 false) s) = false := hrep
    rw [takeUnicast_of_full hrep' hfull]
    rfl
  case cached =>
    have hrep' : repeatsCommit code r.tag (setLink .c (.up 0 false) s) = false := hrep
    have hcached : cachedResponse code r.tag (setLink .c (.up 0 false) s) = some e := by
      rw [← hcode, ← htag]
      exact cachedResponse_of_mem hlaw he
    rw [takeUnicast_of_cached hrep' hroom hcached]
    rfl

end Sys2Proof.Machine

/-! Enumeration (R187): which address fields give an address, what node control takes from them, and what an ENUM received
leaves before the grant. -/

namespace Sys2Proof.Machine

open Sys2Proof.Safety

/-! ### The address field -/

theorem givesAddress_iff {a : BitVec 6} : givesAddress a = true ↔ a ≠ 0 ∧ a ≠ 63 := by
  simp [givesAddress]

theorem givesAddress_eq_false_iff {a : BitVec 6} : givesAddress a = false ↔ a = 0 ∨ a = 63 := by
  rw [Bool.eq_false_iff, ne_eq, givesAddress_iff, ← not_or, not_not]

theorem enumPassedOn_of_gives {a : BitVec 6} (h : givesAddress a = true) : enumPassedOn a = a + 1 := if_pos h

theorem enumPassedOn_of_gives_none {a : BitVec 6} (h : givesAddress a = false) : enumPassedOn a = a :=
  if_neg (Bool.eq_false_iff.mp h)

/-! ### Node control -/

/-- The node takes the address; only the mode UNADDRESSED changes with it. -/
theorem takeAddress_of_gives {a : BitVec 6} (s : State) (h : givesAddress a = true) :
    takeAddress a s = { s with address := a, mode := if s.mode = .unaddressed then .filtering else s.mode } := by
  rw [takeAddress, if_pos h]
  cases s.mode <;> rfl

theorem takeAddress_of_gives_none {a : BitVec 6} (s : State) (h : givesAddress a = false) : takeAddress a s = s :=
  if_neg (Bool.eq_false_iff.mp h)

/-! ### The command -/

/-- An ENUM that passes the receive checks: node control takes its address field before the frame is passed on, so that the node
keeps the address whatever becomes of the frame. -/
theorem execEnum_receives {a : BitVec 6} {ext : BitVec 15} {payload : List Word} {s : State} (hreceives : Receives .c s)
    (hfits : payload.length ≤ 64) :
    execEnum a ext payload s =
      .next (grantStep (passedOn { kind := 10, address := enumPassedOn a, extension := ext, payload := payload }
        (takeAddress a { s with cLink := .up 0 false }))) := by
  obtain ⟨n, inside, hup⟩ := up_of_receives hreceives
  have haccepted : decide (payload.length ≤ Config.maxPayload) = true := decide_eq_true hfits
  rw [execEnum, whenRunning_running _ hreceives.1, haccepted, receiveFrame_accepted _ hup, routeEnum, placeReturn_eq_passedOn]
  rfl

/-- Settles O31, by whether the address field gives an address. -/
theorem enumGivesAddress : Obligations.EnumGivesAddress := by
  intro a ext payload s hreceives hfits
  have hexec : exec (.enum a ext payload) s = execEnum a ext payload s := rfl
  rw [hexec, execEnum_receives hreceives hfits]
  refine ⟨fun hzero hlast => ?gives, fun hnone => ?givesNone⟩
  case gives =>
    have hgives : givesAddress a = true := givesAddress_iff.mpr ⟨hzero, hlast⟩
    rw [enumPassedOn_of_gives hgives, takeAddress_of_gives _ hgives]
  case givesNone =>
    have hgives : givesAddress a = false := givesAddress_eq_false_iff.mpr hnone
    rw [enumPassedOn_of_gives_none hgives, takeAddress_of_gives_none _ hgives]

end Sys2Proof.Machine

/-! What a command does, taken apart into the acts of the part's blocks. Every command of a running part is a chain of such acts
and then the grant (`exec_acts`), so that a law that every act and the grant keep is kept by every step (`step_keeps`). -/

namespace Sys2Proof.Machine

set_option Elab.async false

open Sys2Proof.Safety

/-! ### The acts -/

/-- The move of a port to DOWN without its flag (R143, R146): what `linkDown` does after it has set LINK_LOSS. -/
def cutLink (port : Port) (s : State) : State :=
  match port with
  | .s => { s with sLink := .down, sTransmission := none, returnQueue := [] }
  | .c => { abortCTransmission s with cLink := .down, forwardQueue := [], responses := [] }

theorem linkDown_eq (port : Port) (s : State) : linkDown port s = cutLink port (raiseFlag (linkLossFlag port) s) := by
  cases port <;> rfl

/-- A bank in canonical form with sound profiles (R24, R28). -/
abbrev BankSound (bank : Bank) : Prop := bank.wf ∧ ∀ e ∈ bank, ProfileSound e.2

/-- What a rewritten binding keeps of the former one: its key, soundness, and a profile slot that it tracks within; the slot itself
while a sweep runs. -/
structure Rewrites (s : State) (b b' : Binding) : Prop where
  source : b'.source = b.source
  channel : b'.channel = b.channel
  sound : BindingSound b → BindingSound b'
  fits : ∀ p, s.activeBank.lookup b.profile = some p → ProfileSound p → tracksWithin b p = true →
    ∃ p', s.activeBank.lookup b'.profile = some p' ∧ tracksWithin b' p' = true
  slot : b'.profile = b.profile ∨ s.sweep = none

/-- One act of a block within a command, with what the block has tested before it acts. -/
inductive Act (c : Instr) (s : State) : State → Prop where
  /-- Flags, owed marks and settings that no law speaks of are written. -/
  | settings (flags owed mask : BitVec 9) (policy : DefaultPolicy) (period : BitVec 2) :
      Act c s { s with
        flags := flags, owedNotices := owed, noticeMask := mask, defaultPolicy := policy, tickPeriod := period }
  | append (body : Body) (room : s.store.length < 64) : Act c s (appendRecord body s)
  | rewriteStore (store : List Record) (same : store.map recordSequence = s.store.map recordSequence) :
      Act c s { s with store := store }
  | dropUnnumbered (keep : Record → Bool) (numbered : ∀ r, (recordSequence r).isSome → keep r = true) :
      Act c s { s with store := s.store.filter keep }
  | rebind (i : Fin 256) (b b' : Binding) (old : (i, b) ∈ s.bindings) (kept : Rewrites s b b') : Act c s (setBinding i b' s)
  | bind (i : Fin 256) (b : Binding) (free : s.bindings.lookup i = none)
      (key : ∀ e ∈ s.bindings, ¬ (e.2.source = b.source ∧ e.2.channel = b.channel)) (sound : BindingSound b)
      (track : b.track = .unsettled) (slot : (s.activeBank.lookup b.profile).isSome) (quiet : s.sweep = none) :
      Act c s (setBinding i b s)
  | unbind (i : Fin 256) : Act c s { s with bindings := s.bindings.remove i }
  | shadow (bank : Bank) (quiet : s.sweep = none)
      (sound : BankSound s.activeBank → BankSound s.shadowBank → BankSound bank) : Act c s { s with shadowBank := bank }
  | beginSweep (sweep : Sweep) (slots : ∀ e ∈ s.bindings, (s.shadowBank.lookup e.2.profile).isSome) :
      Act c s { s with sweep := some sweep }
  | exchange (ends : c = .commitSweepEnd) (runs : s.sweep.isSome) : Act c s (exchangeBanks s)
  | link (port : Port) (l : Link) (up : isUp l = isUp (linkOf port s)) (bounded : linkBounded (linkOf port s) → linkBounded l) :
      Act c s (setLink port l s)
  | cUp : Act c s { s with cLink := .up 0 false }
  | cut (port : Port) : Act c s (cutLink port s)
  /-- The S port's link, transmitter and queue are written, and the transmitter then takes the oldest frame that waits. -/
  | sPort (l : Link) (transmission : Option Frame) (queue : List Frame) (up : isUp s.sLink → isUp l)
      (bounded : linkBounded s.sLink → linkBounded l) (idle : transmission = none ∨ transmission = s.sTransmission)
      (capacity : s.returnQueue.length ≤ 8 → queue.length ≤ 8) :
      Act c s (startSTransmission { s with sLink := l, sTransmission := transmission, returnQueue := queue })
  | forward (f : Frame) (room : s.forwardQueue.length < 8) : Act c s { s with forwardQueue := s.forwardQueue ++ [f] }
  | complete : Act c s { s with cTransmission := none }
  | queue (r : Response) (room : s.responses.length < 4) : Act c s { s with responses := s.responses ++ [r] }
  | cacheEntry (r : Response) : Act c s { s with cache := cacheWith r s.cache }
  | address (a : BitVec 6) : Act c s (takeAddress a s)
  | mode (m : Mode) (before : s.mode ≠ .unaddressed) (after : m ≠ .unaddressed) : Act c s (changeMode m s)
  | chainReset : Act c s (chainResetBlocks s)
  | restart : Act c s (restartBlocks s)
  | acknowledge (d : Nat) (numbered : d ≤ numberedCount s.store) : Act c s (removeAcknowledged d s)
  | delivery (timeout limit : Nat) (timeoutRange : 1 ≤ timeout ∧ timeout ≤ 255) (limitRange : 1 ≤ limit ∧ limit ≤ 15) :
      Act c s { s with ackTimeout := timeout, retryLimit := limit, retryCount := min s.retryCount limit }
  | clearStall (stalled : s.reporter = .stalled) : Act c s { s with reporter := .awaiting, retryCount := 0 }
  | startTimer (awaiting : s.reporter = .awaiting) : Act c s { s with ackTimer := some s.ackTimeout }
  | countTimer (n : Nat) (runs : s.ackTimer = some n) (more : 1 < n) : Act c s { s with ackTimer := some (n - 1) }
  | retry (n : Nat) (runs : s.ackTimer = some n) (below : s.retryCount < s.retryLimit) :
      Act c s { s with ackTimer := none, retryCount := s.retryCount + 1 }
  | stall (n : Nat) (runs : s.ackTimer = some n) : Act c s { s with ackTimer := none, reporter := .stalled }
  | time (ticks : c = .tick) : Act c s (advanceTime s)

/-- Several acts, one after another. -/
abbrev Acts (c : Instr) : State → State → Prop := Relation.ReflTransGen (Act c)

theorem Act.acts {c : Instr} {s t : State} (h : Act c s t) : Acts c s t := .single h

theorem Acts.none {c : Instr} {s : State} : Acts c s s := .refl

/-- Along a chain of acts that start from it a predicate that every act keeps is kept. -/
theorem Acts.keep {c : Instr} {P : State → Prop} (hact : ∀ s t, Act c s t → P s → P t) {s t : State} (h : Acts c s t)
    (hs : P s) : P t := by
  induction h with
  | refl => exact hs
  | tail _ hlast ih => exact hact _ _ hlast ih

/-! ### Rewritten bindings -/

/-- A rewriting that leaves the key, the profile and the track, and keeps the entry sound. -/
theorem Rewrites.of_track {s : State} {b b' : Binding} (hsource : b'.source = b.source) (hchannel : b'.channel = b.channel)
    (hprofile : b'.profile = b.profile) (htrack : b'.track = b.track) (hsound : BindingSound b → BindingSound b') :
    Rewrites s b b' where
  source := hsource
  channel := hchannel
  sound := hsound
  fits p hp _ hw := ⟨p, hprofile ▸ hp, by simpa only [tracksWithin, htrack] using hw⟩
  slot := .inl hprofile

theorem rewrites_resync (s : State) (b : Binding) (mark : Bool) : Rewrites s b { b with resync := mark } :=
  .of_track rfl rfl rfl rfl fun h => h

theorem rewrites_clearLatches (s : State) (b : Binding) : Rewrites s b (clearLatches b) := by
  refine .of_track rfl rfl rfl rfl fun h => ?_
  obtain ⟨h1, h2, h3, h4, h5, h6, h7, h8, -, h10⟩ := h
  refine ⟨h1, h2, h3, h4, h5, h6, h7, h8, ?_, h10⟩
  intro l hl
  unfold clearLatches at hl
  dsimp only at hl
  split at hl
  · obtain rfl := Option.some.inj hl
    exact le_rfl
  · cases hl

theorem rewrites_countdown (s : State) (b : Binding) (h : 1 < b.countdown) :
    Rewrites s b { b with countdown := b.countdown - 1 } := by
  refine .of_track rfl rfl rfl rfl fun hsound => ?_
  obtain ⟨h1, h2, h3, h4, h5, h6, h7, -, h9, h10⟩ := hsound
  exact ⟨h1, h2, h3, h4, h5, h6, (Nat.sub_le _ _).trans h7, fun _ => by dsimp only; omega, h9, h10⟩

theorem rewrites_expired (s : State) (b : Binding) : Rewrites s b (expiredBinding b) where
  source := rfl
  channel := rfl
  sound := by
    rintro ⟨h1, h2, h3, h4, h5, h6, -, -, h9, -⟩
    exact ⟨h1, h2, h3, h4, h5, h6, Nat.zero_le _, fun h => by simp [countsDown, expiredBinding] at h, h9, nofun⟩
  fits p hp _ _ := ⟨p, hp, rfl⟩
  slot := .inl rfl

/-! ### A classified pair rewrites its binding (R51 to R66) -/

theorem latchUpdate_low_le_high {l : Option Latches} (zone : Nat) (h : ∀ m ∈ l, m.low ≤ m.high) :
    (latchUpdate zone l).low ≤ (latchUpdate zone l).high := by
  cases l with
  | none => exact le_rfl
  | some m => exact (min_le_right _ _).trans (le_max_right _ _)

/-- The fields of a binding that a classified pair leaves, and the latches that it can leave. -/
structure SampleKeeps (b b' : Binding) : Prop where
  source : b'.source = b.source
  channel : b'.channel = b.channel
  profile : b'.profile = b.profile
  policy : b'.policy = b.policy
  factor : b'.factor = b.factor
  report : b'.report = b.report
  limit : b'.limit = b.limit
  reason : b'.reason = b.reason
  decimation : b'.decimation = b.decimation
  countdown : b'.countdown = b.limit
  latches : b'.latches = b.latches ∨ ∃ zone, b'.latches = some (latchUpdate zone b.latches)

theorem sampleBinding_keeps (i : Fin 256) (b : Binding) (p : Profile) (value : Word) :
    SampleKeeps b (sampleBinding i b p value).binding := by
  unfold sampleBinding
  dsimp only
  split
  · exact ⟨rfl, rfl, rfl, rfl, rfl, rfl, rfl, rfl, rfl, rfl, .inr ⟨_, rfl⟩⟩
  · exact ⟨rfl, rfl, rfl, rfl, rfl, rfl, rfl, rfl, rfl, rfl, .inr ⟨_, rfl⟩⟩
  · unfold trackSample
    dsimp only
    split
    · exact ⟨rfl, rfl, rfl, rfl, rfl, rfl, rfl, rfl, rfl, rfl, .inl rfl⟩
    · split
      · exact ⟨rfl, rfl, rfl, rfl, rfl, rfl, rfl, rfl, rfl, rfl, .inr ⟨_, rfl⟩⟩
      · exact ⟨rfl, rfl, rfl, rfl, rfl, rfl, rfl, rfl, rfl, rfl, .inl rfl⟩

/-- R6, R57: a classified pair leaves its binding within its profile. -/
theorem sampleBinding_tracksWithin (i : Fin 256) {b : Binding} {p : Profile} (value : Word) (hp : ProfileSound p)
    (hb : tracksWithin b p = true) : tracksWithin (sampleBinding i b p value).binding p = true := by
  obtain ⟨-, -, -, -, hone, -⟩ := hp
  have hraw := rawZone_le_length p.thresholds value
  unfold sampleBinding
  dsimp only
  split
  · simpa [settle, tracksWithin] using hraw
  · simpa [settle, tracksWithin] using hraw
  · rename_i zone candidate htrack
    have heff := effectiveZone_le_length p.thresholds p.hysteresis zone value
    simp only [tracksWithin, htrack, Bool.and_eq_true, decide_eq_true_eq] at hb
    obtain ⟨hzone, hcandidate⟩ := hb
    unfold trackSample
    dsimp only
    split
    · simpa [tracksWithin] using hzone
    · split
      · simpa [commitTransition, tracksWithin] using heff
      · rename_i hne hcount
        have hbelow : 1 ≤ candidateCount (effectiveZone p.thresholds p.hysteresis zone value) candidate
            ∧ candidateCount (effectiveZone p.thresholds p.hysteresis zone value) candidate ≤ p.persistence := by
          cases candidate with
          | none => exact ⟨le_rfl, hone⟩
          | some k =>
            simp only [Option.all_some, Bool.and_eq_true, decide_eq_true_eq] at hcandidate
            simp only [candidateCount]
            split <;> omega
        simp [tracksWithin, hzone, hne, heff, hbelow.1, lt_of_le_of_ne hbelow.2 hcount]

theorem forwardDecision_decimation (b : Binding) (changing : Bool) (hfactor : 1 ≤ b.factor) (h : b.decimation < b.factor) :
    (forwardDecision b changing).2 < b.factor := by
  unfold forwardDecision
  split
  · exact h
  · exact h
  · exact h
  · split <;> dsimp only <;> omega

/-- The binding that a classified pair leaves (R51). -/
def classifiedBinding (i : Fin 256) (b : Binding) (p : Profile) (value : Word) : Binding :=
  let r := sampleBinding i b p value
  { r.binding with lastValue := some value, decimation := (forwardDecision r.binding r.changing).2 }

theorem classifyBound_fst (i : Fin 256) (b : Binding) (p : Profile) (value : Word) (s : State) :
    (classifyBound i b p value s).1
      = offerIfSome (sampleBinding i b p value).body (setBinding i (classifiedBinding i b p value) s) := rfl

theorem rewrites_classified {s : State} (i : Fin 256) {b : Binding} {p : Profile} (value : Word)
    (hslot : s.activeBank.lookup b.profile = some p) : Rewrites s b (classifiedBinding i b p value) := by
  have hkeeps := sampleBinding_keeps i b p value
  refine ⟨hkeeps.source, hkeeps.channel, fun hsound => ?_, fun q hq hsound hw => ?_, .inl hkeeps.profile⟩
  · obtain ⟨h1, h2, h3, h4, h5, h6, h7, h8, h9, h10⟩ := hsound
    refine ⟨?_, ?_, ?_, ?_, ?_, ?_, ?_, ?_, ?_, ?_⟩
    · exact hkeeps.source.trans_ne h1
    · exact hkeeps.source.trans_ne h2
    · exact h3.trans_eq hkeeps.factor.symm
    · exact hkeeps.factor.trans_le h4
    · refine forwardDecision_decimation _ _ ?_ ?_
      · exact h3.trans_eq hkeeps.factor.symm
      · rw [hkeeps.decimation, hkeeps.factor]
        exact h5
    · exact hkeeps.limit.trans_le h6
    · exact (hkeeps.countdown.trans hkeeps.limit.symm).le
    · intro hcounts
      have hlimit : b.limit ≠ 0 := by
        have : (sampleBinding i b p value).binding.limit ≠ 0 := by
          simp only [countsDown, Bool.and_eq_true, bne_iff_ne] at hcounts
          exact hcounts.1
        rwa [hkeeps.limit] at this
      exact (Nat.one_le_iff_ne_zero.mpr hlimit).trans_eq hkeeps.countdown.symm
    · rcases hkeeps.latches with h | ⟨zone, h⟩
      · exact fun l hl => h9 l (h ▸ hl)
      · intro l hl
        obtain rfl := Option.some.inj (h.symm.trans hl)
        exact latchUpdate_low_le_high zone h9
    · exact hkeeps.reason.trans_ne h10
  · obtain rfl := Option.some.inj (hslot.symm.trans hq)
    refine ⟨p, ?_, sampleBinding_tracksWithin i value hsound hw⟩
    rw [← hslot]
    exact congrArg s.activeBank.lookup hkeeps.profile

/-! ### A MODIFY_BINDING rewrites its binding (R18, R19) -/

theorem givenInRange_some {low high : Nat} {w : Word} (h : givenInRange low high (some w) = true) :
    low ≤ w.toNat ∧ w.toNat ≤ high := by simpa [givenInRange, inRange] using h

@[simp] theorem followChanges_source (old new : Binding) : (followChanges old new).source = new.source := by
  simp only [followChanges]; split_ifs <;> rfl
@[simp] theorem followChanges_channel (old new : Binding) : (followChanges old new).channel = new.channel := by
  simp only [followChanges]; split_ifs <;> rfl
@[simp] theorem followChanges_profile (old new : Binding) : (followChanges old new).profile = new.profile := by
  simp only [followChanges]; split_ifs <;> rfl
@[simp] theorem followChanges_policy (old new : Binding) : (followChanges old new).policy = new.policy := by
  simp only [followChanges]; split_ifs <;> rfl
@[simp] theorem followChanges_factor (old new : Binding) : (followChanges old new).factor = new.factor := by
  simp only [followChanges]; split_ifs <;> rfl
@[simp] theorem followChanges_report (old new : Binding) : (followChanges old new).report = new.report := by
  simp only [followChanges]; split_ifs <;> rfl
@[simp] theorem followChanges_limit (old new : Binding) : (followChanges old new).limit = new.limit := by
  simp only [followChanges]; split_ifs <;> rfl
@[simp] theorem followChanges_lastValue (old new : Binding) : (followChanges old new).lastValue = new.lastValue := by
  simp only [followChanges]; split_ifs <;> rfl
@[simp] theorem followChanges_resync (old new : Binding) : (followChanges old new).resync = new.resync := by
  simp only [followChanges]; split_ifs <;> rfl
@[simp] theorem followChanges_seen (old new : Binding) : (followChanges old new).seen = new.seen := by
  simp only [followChanges]; split_ifs <;> rfl
@[simp] theorem followChanges_transitions (old new : Binding) : (followChanges old new).transitions = new.transitions := by
  simp only [followChanges]; split_ifs <;> rfl
theorem followChanges_track (old new : Binding) :
    (followChanges old new).track = if new.profile = old.profile then new.track else .unsettled := by
  simp only [followChanges, ite_not]; split_ifs <;> rfl
theorem followChanges_reason (old new : Binding) :
    (followChanges old new).reason = if new.profile = old.profile then new.reason else .reprofiled := by
  simp only [followChanges, ite_not]; split_ifs <;> rfl
theorem followChanges_latches (old new : Binding) :
    (followChanges old new).latches = if new.profile = old.profile then new.latches else none := by
  simp only [followChanges, ite_not]; split_ifs <;> rfl
theorem followChanges_decimation (old new : Binding) :
    (followChanges old new).decimation = if new.policy = old.policy ∧ new.factor = old.factor then new.decimation else 0 := by
  simp only [followChanges, ← not_and_or, ne_eq, ite_not]; split_ifs <;> rfl
theorem followChanges_countdown (old new : Binding) :
    (followChanges old new).countdown = if new.profile = old.profile ∧ new.limit = old.limit then new.countdown else new.limit := by
  simp only [followChanges]; split_ifs <;> simp_all

theorem modifiedBinding_sound {c : Changes} {b : Binding} (hc : changesInRange c = true) (hb : BindingSound b) :
    BindingSound (modifiedBinding c b) := by
  obtain ⟨h1, h2, h3, h4, h5, h6, h7, h8, h9, h10⟩ := hb
  have hfactor : 1 ≤ (writeChanges c b).factor ∧ (writeChanges c b).factor ≤ 255 := by
    simp only [changesInRange, Bool.and_eq_true] at hc
    obtain ⟨⟨-, hrange⟩, -⟩ := hc
    unfold writeChanges
    cases hf : c.factor with
    | none => exact ⟨h3, h4⟩
    | some w => exact givenInRange_some (hf ▸ hrange)
  have hlimit : (writeChanges c b).limit ≤ 65535 := by
    unfold writeChanges
    cases c.limit with
    | none => exact h6
    | some w => exact Nat.le_of_lt_succ w.isLt
  have hcounts : countsDown (modifiedBinding c b) = true → (writeChanges c b).limit ≠ 0 := by
    simp only [countsDown, modifiedBinding, followChanges_limit, Bool.and_eq_true, bne_iff_ne]
    exact fun h => h.1
  unfold modifiedBinding at hcounts ⊢
  refine ⟨?_, ?_, ?_, ?_, ?_, ?_, ?_, fun h => ?_, ?_, ?_⟩
  · exact (followChanges_source _ _).trans_ne h1
  · exact (followChanges_source _ _).trans_ne h2
  · simpa using hfactor.1
  · simpa using hfactor.2
  · rw [followChanges_decimation, followChanges_factor]
    split
    · rename_i hsame
      exact h5.trans_eq hsame.2.symm
    · exact hfactor.1
  · simpa using hlimit
  · rw [followChanges_countdown, followChanges_limit]
    split
    · rename_i hsame
      exact h7.trans_eq hsame.2.symm
    · exact le_rfl
  · have hpos := hcounts h
    rw [followChanges_countdown]
    split
    · rename_i hsame
      refine h8 ?_
      simp only [countsDown, followChanges_limit, followChanges_track, if_pos hsame.1, Bool.and_eq_true] at h ⊢
      exact ⟨hsame.2 ▸ h.1, h.2⟩
    · exact Nat.one_le_iff_ne_zero.mpr hpos
  · rw [followChanges_latches]
    split
    · exact h9
    · exact nofun
  · rw [followChanges_reason]
    split
    · exact h10
    · exact nofun

theorem rewrites_modified {s : State} {c : Changes} {b : Binding} (hc : changesInRange c = true) (hquiet : s.sweep = none)
    (hslot : ∀ w ∈ c.profile, (s.activeBank.lookup (slotOf w)).isSome) : Rewrites s b (modifiedBinding c b) where
  source := followChanges_source _ _
  channel := followChanges_channel _ _
  sound := modifiedBinding_sound hc
  slot := .inr hquiet
  fits p hp _ hw := by
    by_cases hsame : (writeChanges c b).profile = b.profile
    · refine ⟨p, ?_, ?_⟩
      · rw [modifiedBinding, followChanges_profile, hsame]
        exact hp
      · rw [modifiedBinding, tracksWithin, followChanges_track, if_pos hsame]
        exact hw
    · obtain ⟨w, hw'⟩ : ∃ w, c.profile = some w := by
        cases hprofile : c.profile with
        | none => exact absurd (by rw [writeChanges, hprofile]; rfl) hsame
        | some w => exact ⟨w, rfl⟩
      obtain ⟨p', hp'⟩ := Option.isSome_iff_exists.mp (hslot w hw')
      refine ⟨p', ?_, ?_⟩
      · rw [modifiedBinding, followChanges_profile, writeChanges, hw']
        exact hp'
      · rw [tracksWithin, modifiedBinding, followChanges_track, if_neg hsame]

end Sys2Proof.Machine

namespace Sys2Proof.Machine

set_option Elab.async false

open Sys2Proof.Safety

/-! ### Flags and records as acts -/

variable {c : Instr}

theorem raiseFlag_acts (f : Flag) (s : State) : Acts c s (raiseFlag f s) := by
  rcases raiseFlag_cases f s with h | h | ⟨hroom, h⟩ | ⟨-, h⟩ <;> rw [h]
  · exact (Act.settings _ _ _ _ _).acts
  · have hset : Acts c s { s with flags := withFlag s.flags f } :=
      (Act.settings _ s.owedNotices s.noticeMask s.defaultPolicy s.tickPeriod).acts
    exact hset.tail (Act.append (s := { s with flags := withFlag s.flags f }) (.notice f) hroom)
  · exact (Act.settings _ _ s.noticeMask s.defaultPolicy s.tickPeriod).acts

/-- Merging keeps every record's number. -/
theorem mergeNewest_sequences {i : Fin 256} {toZone : Nat} {value : Word} {now : BitVec 32} {rs merged : List Record}
    (h : mergeNewest i toZone value now rs = some merged) : merged.map recordSequence = rs.map recordSequence := by
  induction rs generalizing merged with
  | nil => cases h
  | cons r older ih =>
    rw [mergeNewest] at h
    split at h
    · split at h
      · obtain rfl := Option.some.inj h
        rfl
      · cases h
    · obtain ⟨rest, hrest, rfl⟩ := Option.map_eq_some_iff.mp h
      rw [List.map_cons, List.map_cons, ih hrest]

theorem mergeIntoStore_sequences {i : Fin 256} {toZone : Nat} {value : Word} {s : State} {merged : List Record}
    (h : mergeIntoStore i toZone value s = some merged) : merged.map recordSequence = s.store.map recordSequence := by
  rw [mergeIntoStore] at h
  split at h
  · cases h
  · obtain ⟨rest, hrest, rfl⟩ := Option.map_eq_some_iff.mp h
    rw [List.map_reverse, mergeNewest_sequences hrest, List.map_reverse, List.reverse_reverse]

theorem failedInsertion_acts (i : Fin 256) (s : State) : Acts c s (failedInsertion i s) := by
  unfold failedInsertion
  split
  · rename_i b hb
    exact ((Act.rebind i b _ (Table.mem_of_lookup hb) (rewrites_resync s b true)).acts).trans (raiseFlag_acts _ _)
  · exact raiseFlag_acts _ _

theorem offerRecord_acts (body : Body) (s : State) : Acts c s (offerRecord body s) := by
  by_cases hroom : s.store.length < 64
  · rw [offerRecord_of_room body hroom]
    exact (Act.append body hroom).acts
  · unfold offerRecord
    rw [if_neg hroom]
    split
    · split
      · rename_i hmerged
        exact (Act.rewriteStore _ (mergeIntoStore_sequences hmerged)).acts
      · exact failedInsertion_acts _ _
    · exact failedInsertion_acts _ _
    · exact failedInsertion_acts _ _
    · unfold offerNotice
      rw [if_neg hroom]
      exact (Act.settings s.flags _ s.noticeMask s.defaultPolicy s.tickPeriod).acts

/-! ### Classification as acts -/

theorem findKey_mem {source : BitVec 6} {channel : BitVec 5} {s : State} {e : Fin 256 × Binding}
    (h : findKey source channel s = some e) : e ∈ s.bindings := List.mem_of_find?_eq_some h

theorem classifyPair_acts (source : BitVec 6) (pair : Pair) (s : State) : Acts c s (classifyPair source pair s).1 := by
  unfold classifyPair
  split
  · exact .none
  · rename_i i b hkey
    split
    · exact .none
    · rename_i p hslot
      rw [classifyBound_fst]
      have hrebind : Acts c s (setBinding i (classifiedBinding i b p pair.value) s) :=
        (Act.rebind i b _ (findKey_mem hkey) (rewrites_classified i pair.value hslot)).acts
      unfold offerIfSome
      split
      · exact hrebind.trans (offerRecord_acts _ _)
      · exact hrebind

theorem classifyPairs_acts (source : BitVec 6) (pairs : List Pair) (s : State) :
    Acts c s (classifyPairs source pairs s).1 := by
  induction pairs generalizing s with
  | nil => exact .none
  | cons pair rest ih => exact (classifyPair_acts source pair s).trans (ih _)

theorem placeForward_acts (f : Frame) (s : State) : Acts c s (placeForward f s) := by
  unfold placeForward
  split
  · exact (Act.forward f (by assumption)).acts
  · exact raiseFlag_acts _ _

theorem routeSample_acts (f : SampleFrame) (s : State) : Acts c s (routeSample f s) := by
  unfold routeSample
  split
  · unfold classifyFrame
    dsimp only
    split
    · exact classifyPairs_acts _ _ _
    · exact (classifyPairs_acts _ _ _).trans (placeForward_acts _ _)
  · exact placeForward_acts _ _

theorem placeReturn_acts (f : Frame) (s : State) : Acts c s (placeReturn f s) := by
  unfold placeReturn
  split
  · rename_i hroom
    refine (Act.sPort s.sLink s.sTransmission (s.returnQueue ++ [f]) id id (.inr rfl) fun _ => ?_).acts
    rw [List.length_append]
    exact hroom
  · exact raiseFlag_acts _ _

/-! ### Links as acts -/

theorem linkDown_acts (port : Port) (s : State) : Acts c s (linkDown port s) := by
  rw [linkDown_eq]
  exact (raiseFlag_acts _ _).tail (.cut port)

@[simp] theorem linkOf_raiseFlag (port : Port) (f : Flag) (s : State) : linkOf port (raiseFlag f s) = linkOf port s := by
  cases port
  · exact raiseFlag_sLink f s
  · exact raiseFlag_cLink f s

theorem faultyReception_acts (port : Port) (s : State) : Acts c s (faultyReception port s) := by
  cases hlink : linkOf port s with
  | down => rw [faultyReception_down hlink]
  | acquiring n o a =>
    rw [faultyReception_acquiring hlink]
    exact (Act.link port _ (by rw [hlink]; rfl) (by rw [hlink]; exact id)).acts
  | up n a =>
    rw [faultyReception_up hlink]
    split
    · rename_i hn
      refine (raiseFlag_acts _ _).tail (.link port _ ?_ fun _ => decide_eq_true hn)
      rw [linkOf_raiseFlag, hlink]
      rfl
    · exact (raiseFlag_acts _ _).trans (linkDown_acts _ _)

theorem receiveFrame_acts {port : Port} {accepted : Bool} {route : State → State} {s : State}
    (hroute : Acts c (setLink port (.up 0 false) s) (route (setLink port (.up 0 false) s))) :
    Acts c s (receiveFrame port accepted route s) := by
  unfold receiveFrame
  split
  · rename_i n a hlink
    split
    · exact ((Act.link port _ (by rw [hlink]; rfl) fun _ => rfl).acts).trans hroute
    · exact faultyReception_acts _ _
  · exact faultyReception_acts _ _

theorem openFrame_acts (port : Port) (s : State) : Acts c s (openFrame port s) := by
  unfold openFrame
  split
  · exact .none
  · rename_i hlink
    exact (Act.link port _ (by rw [hlink]; rfl) (by rw [hlink]; exact id)).acts
  · rename_i hlink
    exact (Act.link port _ (by rw [hlink]; rfl) (by rw [hlink]; exact id)).acts

theorem linkUp_acts (port : Port) (s : State) : Acts c s (linkUp port s) := by
  cases port
  · exact (Act.sPort (.up 0 false) s.sTransmission s.returnQueue (fun _ => rfl) (fun _ => rfl) (.inr rfl) id).acts
  · exact Act.cUp.acts

theorem framingErrorStep_acts (port : Port) (e : FramingError) (s : State) : Acts c s (framingErrorStep port e s) := by
  unfold framingErrorStep
  split
  · rename_i hlink
    split
    · exact (Act.link port _ (by rw [hlink]; rfl) fun _ => rfl).acts
    · exact .none
  · rename_i n opened assembling hlink
    split
    · exact (Act.link port _ (by rw [hlink]; rfl) (by rw [hlink]; exact id)).acts
    · exact (Act.link port _ (by rw [hlink]; rfl) fun _ => rfl).acts
  · split
    · split
      · exact (faultyReception_acts _ _).trans (openFrame_acts _ _)
      · exact faultyReception_acts _ _
    · exact .none

theorem syncOutsideStep_acts (port : Port) (s : State) : Acts c s (syncOutsideStep port s) := by
  unfold syncOutsideStep
  split
  · rename_i hlink
    exact (Act.link port _ (by rw [hlink]; rfl) fun _ => rfl).acts
  · rename_i hlink
    exact (Act.link port _ (by rw [hlink]; rfl) (by rw [hlink]; exact id)).acts
  · rename_i n a hlink
    split
    · rename_i hn
      exact (Act.link port (.acquiring (n + 1) true false) (by rw [hlink]; rfl) fun _ => decide_eq_true hn).acts
    · exact linkUp_acts _ _
  · exact .none

theorem syncStep_acts (port : Port) (s : State) : Acts c s (syncStep port s) := by
  unfold syncStep
  split
  · exact framingErrorStep_acts _ _ _
  · exact syncOutsideStep_acts _ _

theorem silenceTimeoutStep_acts (port : Port) (s : State) : Acts c s (silenceTimeoutStep port s) := by
  unfold silenceTimeoutStep
  split
  · exact .none
  · rename_i hlink
    exact (Act.link port _ (by rw [hlink]; rfl) fun _ => rfl).acts
  · exact linkDown_acts _ _

/-! ### Acknowledgement and time as acts -/

theorem insertOwed_acts (s : State) (f : Flag) (hroom : s.store.length < 64) :
    Acts c s (insertOwed s f) ∧ (insertOwed s f).store.length ≤ s.store.length + 1 := by
  unfold insertOwed
  split
  · have hclear : Acts c s { s with owedNotices := withoutFlag s.owedNotices f } :=
      (Act.settings s.flags _ s.noticeMask s.defaultPolicy s.tickPeriod).acts
    dsimp only
    split
    · exact ⟨hclear.tail (.append (.notice f) hroom), by simp⟩
    · exact ⟨hclear, Nat.le_succ _⟩
  · exact ⟨.none, Nat.le_succ _⟩

theorem insertOwed_foldl_acts (flags : List Flag) (s : State) (hroom : s.store.length + flags.length ≤ 64) :
    Acts c s (flags.foldl insertOwed s) := by
  induction flags generalizing s with
  | nil => exact .none
  | cons f rest ih =>
    rw [List.length_cons] at hroom
    obtain ⟨hacts, hlength⟩ := insertOwed_acts (c := c) s f (by omega)
    exact hacts.trans (ih _ (by omega))

theorem resyncEntry_acts (s : State) (i : Fin 256) : Acts c s (resyncEntry s i) := by
  unfold resyncEntry
  split
  · exact .none
  · rename_i b hb
    split
    · rename_i hroom
      have hlength : s.store.length < 64 := of_decide_eq_true (Bool.and_eq_true_iff.mp hroom).1
      have hclear : Acts c s (setBinding i { b with resync := false } s) :=
        (Act.rebind i b _ (Table.mem_of_lookup hb) (rewrites_resync s b false)).acts
      dsimp only
      split
      · exact hclear.tail (.append _ hlength)
      · exact hclear
    · exact .none

theorem foldl_acts {α : Type} {f : State → α → State} (hf : ∀ s a, Acts c s (f s a)) (l : List α) (s : State) :
    Acts c s (l.foldl f s) := by
  induction l generalizing s with
  | nil => exact .none
  | cons a rest ih => exact (hf s a).trans (ih _)

theorem takeAck_acts (payload : List Word) (s : State) : Acts c s (takeAck payload s) := by
  unfold takeAck
  split
  · dsimp only
    split
    · exact .none
    · split
      · rename_i hd
        have hremoved := (Act.acknowledge (c := c) _ hd).acts
        unfold acknowledge
        dsimp only
        split
        · rename_i hfew
          refine hremoved.trans (.trans (insertOwed_foldl_acts _ _ ?_) (foldl_acts resyncEntry_acts _ _))
          have : allFlags.length = 9 := rfl
          have : Config.resyncOccupancy = 48 := rfl
          omega
        · exact hremoved
      · exact raiseFlag_acts _ _
  · exact raiseFlag_acts _ _

theorem routeAck_acts (address : BitVec 6) (extension : BitVec 15) (payload : List Word) (s : State) :
    Acts c s (routeAck address extension payload s) := by
  unfold routeAck
  split
  · exact takeAck_acts _ _
  · exact placeReturn_acts _ _

theorem expireBinding_acts {i : Fin 256} {b : Binding} {s : State} (hb : s.bindings.lookup i = some b) :
    Acts c s (expireBinding i b s) := by
  have hexpired : Acts c s (setBinding i (expiredBinding b) s) :=
    (Act.rebind i b _ (Table.mem_of_lookup hb) (rewrites_expired s b)).acts
  unfold expireBinding
  dsimp only
  split
  · exact hexpired.trans (offerRecord_acts _ _)
  · exact hexpired

theorem decrementEntry_acts (s : State) (i : Fin 256) : Acts c s (decrementEntry s i) := by
  unfold decrementEntry
  split
  · exact .none
  · rename_i b hb
    split
    · split
      · exact expireBinding_acts hb
      · exact (Act.rebind i b _ (Table.mem_of_lookup hb) (rewrites_countdown s b (by omega))).acts
    · exact .none

theorem sentToResend_sequence (r : Record) : recordSequence (sentToResend r) = recordSequence r := by
  obtain ⟨body, delivery, mergeCount, timestamp⟩ := r
  cases delivery <;> rfl

theorem expireAckTimer_acts {s : State} {n : Nat} (hn : s.ackTimer = some n) : Acts c s (expireAckTimer s) := by
  have hresent : Acts c s { s with store := s.store.map sentToResend } := by
    refine (Act.rewriteStore _ ?_).acts
    rw [List.map_map]
    exact List.map_congr_left fun r _ => sentToResend_sequence r
  unfold expireAckTimer
  dsimp only
  split
  · rename_i hbelow
    exact hresent.tail (.retry n hn hbelow)
  · exact hresent.tail (.stall n hn)

theorem engineTick_acts (s : State) : Acts c s (engineTick s) := by
  unfold engineTick
  split
  · exact .none
  · rename_i n hn
    split
    · exact expireAckTimer_acts hn
    · exact (Act.countTimer n hn (by omega)).acts

theorem ackTimerExpiryStep_acts (s : State) : Acts c s (ackTimerExpiryStep s) := by
  unfold ackTimerExpiryStep
  split
  · rename_i n hn
    split
    · exact expireAckTimer_acts hn
    · exact .none
  · exact .none

/-- What follows the time base's own act within a tick. -/
theorem tickStep_acts_of_advanced (s : State) : Acts c (advanceTime s) (tickStep s) := by
  refine .trans ?_ (engineTick_acts _)
  split
  · exact foldl_acts decrementEntry_acts _ _
  · exact Acts.none

theorem tickStep_acts (s : State) : Acts .tick s (tickStep s) := (Act.time rfl).acts.trans (tickStep_acts_of_advanced s)

theorem silenceExpiryStep_acts (i : Fin 256) (s : State) : Acts c s (silenceExpiryStep i s) := by
  unfold silenceExpiryStep
  split
  · rename_i hb
    split
    · exact expireBinding_acts hb
    · exact .none
  · exact .none

theorem completeStep_acts (port : Port) (s : State) : Acts c s (completeStep port s) := by
  unfold completeStep
  split
  · split
    · exact (Act.sPort s.sLink none s.returnQueue id id (.inl rfl) id).acts
    · exact .none
  · split
    · unfold eventCompleted
      split
      · rename_i hawaiting _
        exact Act.complete.acts.tail (.startTimer hawaiting)
      · exact Act.complete.acts
    · exact Act.complete.acts

/-! ### Responses and the sweep as acts -/

theorem queueResponse_acts (r : Response) (s : State) : Acts c s (queueResponse r s) := by
  unfold queueResponse
  split
  · exact (Act.queue r (by assumption)).acts
  · exact raiseFlag_acts _ _

theorem respond_acts (r : Response) (s : State) : Acts c s (respond r s) :=
  (queueResponse_acts r s).tail (.cacheEntry r)

theorem sweepEndStep_acts (s : State) : Acts .commitSweepEnd s (sweepEndStep s) := by
  unfold sweepEndStep
  split
  · exact .none
  · rename_i sweep hsweep
    have hexchange : Acts .commitSweepEnd s (exchangeBanks s) := (Act.exchange rfl (by rw [hsweep]; rfl)).acts
    split
    · exact hexchange
    · exact hexchange.trans (respond_acts _ _)

end Sys2Proof.Machine

namespace Sys2Proof.Machine

set_option Elab.async false

open Sys2Proof.Safety

/-! ### Requests as acts -/

variable {c : Instr}

theorem inRange_iff {low high : Nat} {w : Word} : inRange low high w = true ↔ low ≤ w.toNat ∧ w.toNat ≤ high := by
  simp [inRange]

/-- An address operand that is in range for a binding is neither 0 nor the broadcast address. -/
theorem setWidth_source_ne {w : Word} (h : 1 ≤ w.toNat ∧ w.toNat ≤ 62) : w.setWidth 6 ≠ 0 ∧ w.setWidth 6 ≠ 63 := by
  constructor <;> intro heq <;> have := congrArg BitVec.toNat heq <;> simp at this <;> omega

theorem newBinding_sound {index source channel profile policy factor report limit : Word}
    (h : bindInRange index source channel profile policy factor report = true) :
    BindingSound (newBinding source channel profile policy factor report limit) := by
  simp only [bindInRange, Bool.and_eq_true, inRange_iff] at h
  obtain ⟨⟨⟨⟨⟨⟨-, hsource⟩, -⟩, -⟩, -⟩, hfactor⟩, -⟩ := h
  obtain ⟨hzero, hlast⟩ := setWidth_source_ne hsource
  refine ⟨hzero, hlast, hfactor.1, hfactor.2, hfactor.1, Nat.le_of_lt_succ limit.isLt, le_rfl, fun hcounts => ?_, nofun, nofun⟩
  simp only [countsDown, Bool.and_eq_true, bne_iff_ne] at hcounts
  exact Nat.one_le_iff_ne_zero.mpr hcounts.1

theorem findKey_none {source : BitVec 6} {channel : BitVec 5} {s : State} (h : findKey source channel s = none) :
    ∀ e ∈ s.bindings, ¬ (e.2.source = source ∧ e.2.channel = channel) := by
  intro e he hkey
  have := List.find?_eq_none.mp h e he
  simp [hasKey, hkey.1, hkey.2] at this

theorem bindRequest_acts (operands : List Word) (s : State) : Acts c s (bindRequest operands s).1 := by
  unfold bindRequest
  split
  · rename_i index source channel profile policy factor report limit
    split_ifs with hsweep hrange hused hkey hslot
    · exact .none
    · exact .none
    · exact .none
    · exact .none
    · exact .none
    · refine (Act.bind _ _ (by simpa using hused) (findKey_none (Option.not_isSome_iff_eq_none.mp hkey))
        (newBinding_sound (by simpa using hrange)) rfl ?_ (by simpa using hsweep)).acts
      simpa [newBinding, Option.isSome_iff_ne_none] using hslot
  · exact .none

theorem unsentOf_of_numbered {i : Fin 256} {r : Record} (h : (recordSequence r).isSome) : (!unsentOf i r) = true := by
  rw [Bool.not_eq_true', Bool.eq_false_iff, ne_eq, unsentOf_iff]
  rintro ⟨hunsent, -⟩
  rw [recordSequence, hunsent] at h
  cases h

theorem unbindRequest_acts (operands : List Word) (s : State) : Acts c s (unbindRequest operands s).1 := by
  unfold unbindRequest
  split
  · rename_i index
    split_ifs
    · exact .none
    · exact .none
    · exact .none
    · exact (Act.unbind (indexOf index)).acts.tail (.dropUnnumbered _ fun r h => unsentOf_of_numbered h)
  · exact .none

theorem modifyBindingRequest_acts (operands : List Word) (s : State) : Acts c s (modifyBindingRequest operands s).1 := by
  unfold modifyBindingRequest
  split
  · rename_i index mask values
    dsimp only
    split
    · exact .none
    · rename_i hsweep
      split
      · exact .none
      · rename_i hrange
        split
        · exact .none
        · rename_i b hb
          split
          · exact .none
          · rename_i hslot
            have hchanges : changesInRange (readChanges mask values) = true := by
              rw [Bool.not_eq_true', Bool.not_eq_false, Bool.and_eq_true] at hrange
              exact hrange.2
            refine (Act.rebind _ b _ (Table.mem_of_lookup hb)
              (rewrites_modified hchanges (by simpa using hsweep) fun w hw => ?_)).acts
            rw [Option.mem_def.mp hw, Option.any_some, Option.isNone_iff_eq_none] at hslot
            exact Option.isSome_iff_ne_none.mpr hslot
  · exact .none

theorem readBindingRequest_acts (operands : List Word) (s : State) : Acts c s (readBindingRequest operands s).1 := by
  unfold readBindingRequest
  split
  · split
    · exact .none
    · split
      · exact .none
      · rename_i b hb
        dsimp only
        split
        · exact (Act.rebind _ b _ (Table.mem_of_lookup hb) (rewrites_clearLatches s b)).acts
        · exact .none
  · exact .none

/-! ### Profiles that a LOAD_PROFILE writes (R31) -/

theorem pairwise_of_strictlyIncreasing {ts : List Word} (h : strictlyIncreasing ts = true) :
    ts.Pairwise fun a b => a.signed < b.signed := by
  have htrans : IsTrans Word fun a b => a.signed < b.signed := ⟨fun _ _ _ => lt_trans⟩
  rw [← List.isChain_iff_pairwise]
  induction ts with
  | nil => exact .nil
  | cons a rest ih =>
    cases rest with
    | nil => exact .singleton a
    | cons b rest =>
      rw [strictlyIncreasing, Bool.and_eq_true, decide_eq_true_eq] at h
      exact .cons_cons h.1 (ih h.2)

theorem strictlyIncreasing_of_pairwise {ts : List Word} (h : ts.Pairwise fun a b => a.signed < b.signed) :
    strictlyIncreasing ts = true := by
  induction ts with
  | nil => rfl
  | cons a rest ih =>
    obtain ⟨hhead, htail⟩ := List.pairwise_cons.mp h
    cases rest with
    | nil => rfl
    | cons b rest =>
      rw [strictlyIncreasing, Bool.and_eq_true, decide_eq_true_eq]
      exact ⟨hhead b List.mem_cons_self, ih htail⟩

/-- A threshold in the sample range is read back from its word. -/
theorem signed_ofInt {t : Int} (h : inSampleRange t = true) : Word.signed (BitVec.ofInt 16 t) = t := by
  simp only [inSampleRange, Bool.and_eq_true, decide_eq_true_eq] at h
  exact BitVec.toInt_ofInt_eq_self (by decide) (by omega) (by omega)

theorem spanThresholds_eq (base step count : Word) :
    spanThresholds base step count = (List.range count.toNat).map fun j : Nat => base.signed + (j : Int) * step.toNat := by
  simp [spanThresholds, List.map_eq_flatMap, List.flatMap_assoc]

theorem spanThresholds_length (base step count : Word) : (spanThresholds base step count).length = count.toNat := by
  simp [spanThresholds]

theorem span_increasing {base step count : Word} (hstep : 1 ≤ step.toNat)
    (hrange : (spanThresholds base step count).all inSampleRange = true) :
    ((spanThresholds base step count).map (BitVec.ofInt 16)).Pairwise fun a b : Word => a.signed < b.signed := by
  rw [List.pairwise_map]
  have hin := List.all_eq_true.mp hrange
  have hlt : (spanThresholds base step count).Pairwise (· < ·) := by
    rw [spanThresholds_eq, List.pairwise_map]
    refine List.pairwise_lt_range.imp fun {j k} hjk => ?_
    have hmul : (j : Int) * step.toNat < k * step.toNat :=
      Int.mul_lt_mul_of_pos_right (Int.ofNat_lt.mpr hjk) (by omega)
    omega
  refine hlt.imp_of_mem fun ha hb hab => ?_
  rw [signed_ofInt (hin _ ha), signed_ofInt (hin _ hb)]
  exact hab

theorem storeProfile_acts {slot : Word} {p : Profile} {s : State} (hquiet : s.sweep = none) (hp : ProfileSound p) :
    Acts c s (storeProfile slot p s).1 := by
  refine (Act.shadow _ hquiet fun _ hshadow => ⟨Table.wf_put hshadow.1 _ _, fun e he => ?_⟩).acts
  rcases Table.mem_put he with rfl | hold
  · exact hp
  · exact hshadow.2 e hold

theorem loadExplicit_acts {slot hysteresis persistence edge : Word} {thresholds : List Word} {s : State}
    (hquiet : s.sweep = none) (hhyst : hysteresis.toNat ≤ 4095) (hpers : 1 ≤ persistence.toNat ∧ persistence.toNat ≤ 15)
    (hcount : 1 ≤ thresholds.length ∧ thresholds.length ≤ 15) :
    Acts c s (loadExplicit slot hysteresis persistence edge thresholds s).1 := by
  unfold loadExplicit
  split
  · exact .none
  · rename_i hinc
    exact storeProfile_acts hquiet
      ⟨hcount.1, hcount.2, pairwise_of_strictlyIncreasing (by simpa using hinc), hhyst, hpers.1, hpers.2⟩

theorem loadSpan_acts {slot hysteresis persistence edge base step count : Word} {s : State}
    (hquiet : s.sweep = none) (hhyst : hysteresis.toNat ≤ 4095) (hpers : 1 ≤ persistence.toNat ∧ persistence.toNat ≤ 15) :
    Acts c s (loadSpan slot hysteresis persistence edge base step count s).1 := by
  unfold loadSpan
  split
  · exact .none
  · rename_i hstep
    split
    · exact .none
    · rename_i hcount
      split
      · exact .none
      · rename_i hrange
        rw [Bool.not_eq_true', Bool.not_eq_false] at hstep hcount hrange
        rw [inRange_iff] at hstep hcount
        refine storeProfile_acts hquiet ⟨?_, ?_, span_increasing hstep.1 hrange, hhyst, hpers.1, hpers.2⟩ <;>
          rw [List.length_map, spanThresholds_length]
        · exact hcount.1
        · exact hcount.2

theorem loadProfileRequest_acts {operands : List Word} (hfits : loadCountFits operands = true) (s : State) :
    Acts c s (loadProfileRequest operands s).1 := by
  unfold loadProfileRequest
  split
  · rename_i slot form hysteresis persistence edge rest
    split
    · exact .none
    · rename_i hsweep
      have hquiet : s.sweep = none := by simpa using hsweep
      split
      · exact .none
      · rename_i hrange
        rw [Bool.not_eq_true', Bool.not_eq_false] at hrange
        simp only [loadInRange, Bool.and_eq_true, inRange_iff] at hrange
        obtain ⟨⟨⟨⟨-, -⟩, hhyst⟩, hpers⟩, -⟩ := hrange
        split
        · split
          · exact loadSpan_acts hquiet hhyst.2 hpers
          · exact .none
        · rename_i hform
          split
          · rename_i k thresholds
            simp only [loadCountFits, if_neg hform, Bool.and_eq_true, inRange_iff, beq_iff_eq, List.length_cons] at hfits
            exact loadExplicit_acts hquiet hhyst.2 hpers (by omega)
          · exact .none
  · exact .none

theorem clearProfileRequest_acts (operands : List Word) (s : State) : Acts c s (clearProfileRequest operands s).1 := by
  unfold clearProfileRequest
  split
  · split
    · exact .none
    · rename_i hsweep
      split
      · exact .none
      · exact (Act.shadow _ (by simpa using hsweep) fun _ hshadow =>
          ⟨Table.wf_remove hshadow.1 _, fun e he => hshadow.2 e (List.mem_of_mem_filter he)⟩).acts
  · exact .none

theorem copyActiveRequest_acts (operands : List Word) (s : State) : Acts c s (copyActiveRequest operands s).1 := by
  unfold copyActiveRequest
  split
  · split
    · exact .none
    · rename_i hsweep
      exact (Act.shadow _ (by simpa using hsweep) fun hactive _ => hactive).acts
  · exact .none

theorem readProfileRequest_fst (operands : List Word) (s : State) : (readProfileRequest operands s).1 = s := by
  unfold readProfileRequest
  split
  · split <;> rfl
  · rfl

/-- No slot that a bound binding names is empty where no index conflicts (R37). -/
theorem commitConflict_none {s : State} (h : commitConflict s = none) :
    ∀ e ∈ s.bindings, (s.shadowBank.lookup e.2.profile).isSome := by
  intro e he
  have := List.find?_eq_none.mp (Option.map_eq_none_iff.mp h) e he
  simpa [Option.isSome_iff_ne_none] using this

theorem commitRequest_acts (tag : BitVec 8) (broadcast : Bool) (operands : List Word) (s : State) :
    Acts c s (commitRequest tag broadcast operands s).1 := by
  unfold commitRequest
  split
  · split
    · exact .none
    · split
      · exact .none
      · rename_i hconflict
        exact (Act.beginSweep _ (commitConflict_none hconflict)).acts
  · exact .none

/-! ### Settings -/

theorem identifyRequest_fst (operands : List Word) (s : State) : (identifyRequest operands s).1 = s := by
  unfold identifyRequest
  split <;> rfl

theorem readStatusRequest_fst (operands : List Word) (s : State) : (readStatusRequest operands s).1 = s := by
  unfold readStatusRequest
  split <;> rfl

theorem clearStatusRequest_acts (operands : List Word) (s : State) : Acts c s (clearStatusRequest operands s).1 := by
  unfold clearStatusRequest
  split
  · split
    · exact .none
    · exact (Act.settings _ s.owedNotices s.noticeMask s.defaultPolicy s.tickPeriod).acts
  · exact .none

theorem setTickRequest_acts (operands : List Word) (s : State) : Acts c s (setTickRequest operands s).1 := by
  unfold setTickRequest
  split
  · split
    · exact .none
    · exact (Act.settings s.flags s.owedNotices s.noticeMask s.defaultPolicy _).acts
  · exact .none

theorem setNoticesRequest_acts (operands : List Word) (s : State) : Acts c s (setNoticesRequest operands s).1 := by
  unfold setNoticesRequest
  split
  · split
    · exact .none
    · exact (Act.settings s.flags s.owedNotices _ s.defaultPolicy s.tickPeriod).acts
  · exact .none

theorem setDefaultRequest_acts (operands : List Word) (s : State) : Acts c s (setDefaultRequest operands s).1 := by
  unfold setDefaultRequest
  split
  · split
    · exact (Act.settings s.flags s.owedNotices s.noticeMask _ s.tickPeriod).acts
    · split
      · exact (Act.settings s.flags s.owedNotices s.noticeMask _ s.tickPeriod).acts
      · exact .none
  · exact .none

theorem setDeliveryRequest_acts (operands : List Word) (s : State) : Acts c s (setDeliveryRequest operands s).1 := by
  unfold setDeliveryRequest
  split
  · split
    · exact .none
    · rename_i hrange
      rw [Bool.not_eq_true', Bool.not_eq_false, Bool.and_eq_true, inRange_iff, inRange_iff] at hrange
      exact (Act.delivery _ _ hrange.1 hrange.2).acts
  · exact .none

theorem clearStallRequest_acts (operands : List Word) (s : State) : Acts c s (clearStallRequest operands s).1 := by
  unfold clearStallRequest
  split
  · dsimp only
    split
    · exact (Act.clearStall (by assumption)).acts
    · exact .none
  · exact .none

/-! ### Node control -/

theorem setModeRequest_acts (operands : List Word) {s : State} (haddressed : s.mode ≠ .unaddressed) :
    Acts c s (setModeRequest operands s).1 := by
  unfold setModeRequest
  split
  · split
    · exact .none
    · split
      · exact (Act.mode .transparent haddressed nofun).acts
      · split
        · exact (Act.mode .filtering haddressed nofun).acts
        · exact .none
  · exact .none

theorem abortSweep_acts (sweep : Option Sweep) (s : State) : Acts c s (abortSweep sweep s) := by
  unfold abortSweep
  split
  · split
    · exact .none
    · exact queueResponse_acts _ _
  · exact .none

theorem restartRequest_acts (operands : List Word) (s : State) : Acts c s (restartRequest operands s).1 := by
  unfold restartRequest
  split
  · exact Act.restart.acts.trans (abortSweep_acts _ _)
  · exact .none

/-! ### The agent -/

theorem runCommand_acts (command : Command) (tag : BitVec 8) (broadcast : Bool) {operands : List Word} {s : State}
    (hfits : operandCountFits command operands = true) (haddressed : s.mode ≠ .unaddressed) :
    Acts c s (runCommand command tag broadcast operands s).1 := by
  cases command with
  | identify => rw [runCommand, identifyRequest_fst]
  | readStatus => rw [runCommand, readStatusRequest_fst]
  | clearStatus => exact clearStatusRequest_acts _ _
  | setMode => exact setModeRequest_acts _ haddressed
  | restart => exact restartRequest_acts _ _
  | bind => exact bindRequest_acts _ _
  | unbind => exact unbindRequest_acts _ _
  | modifyBinding => exact modifyBindingRequest_acts _ _
  | readBinding => exact readBindingRequest_acts _ _
  | loadProfile => exact loadProfileRequest_acts hfits _
  | clearProfile => exact clearProfileRequest_acts _ _
  | copyActive => exact copyActiveRequest_acts _ _
  | commit => exact commitRequest_acts _ _ _ _
  | readProfile => rw [runCommand, readProfileRequest_fst]
  | setTick => exact setTickRequest_acts _ _
  | setDelivery => exact setDeliveryRequest_acts _ _
  | clearStall => exact clearStallRequest_acts _ _
  | setNotices => exact setNoticesRequest_acts _ _
  | setDefault => exact setDefaultRequest_acts _ _

theorem executeRequest_acts (code : BitVec 8) (r : Request) (broadcast : Bool) {s : State}
    (haddressed : s.mode ≠ .unaddressed) : Acts c s (executeRequest code r broadcast s).1 := by
  unfold executeRequest
  split
  · exact .none
  · split
    · exact runCommand_acts _ _ _ (by assumption) haddressed
    · exact .none

theorem takeUnicast_acts (code : BitVec 8) (r : Request) {s : State} (haddressed : s.mode ≠ .unaddressed) :
    Acts c s (takeUnicast code r s) := by
  unfold takeUnicast
  split
  · exact .none
  · split
    · exact raiseFlag_acts _ _
    · rename_i hroom
      split
      · exact (Act.queue _ (not_le.mp hroom)).acts
      · have hexecuted := executeRequest_acts (c := c) code r false haddressed
        unfold answerRequest
        split
        · exact hexecuted.trans (respond_acts _ _)
        · exact hexecuted

theorem takeBroadcast_acts (code : BitVec 8) (r : Request) {s : State} (haddressed : s.mode ≠ .unaddressed) :
    Acts c s (takeBroadcast code r s) := by
  unfold takeBroadcast
  split
  · split
    · exact raiseFlag_acts _ _
    · exact executeRequest_acts _ _ _ haddressed
  · exact .none

theorem routeRequest_acts (code : BitVec 8) (r : Request) (s : State) : Acts c s (routeRequest code r s) := by
  unfold routeRequest
  split
  · exact placeReturn_acts _ _
  · rename_i haddressed
    split
    · exact takeUnicast_acts _ _ haddressed
    · split
      · refine (placeReturn_acts _ _).trans (takeBroadcast_acts _ _ ?_)
        rwa [placeReturn_mode]
      · exact placeReturn_acts _ _

/-! ### The router -/

theorem routeEnum_acts (address : BitVec 6) (extension : BitVec 15) (payload : List Word) (s : State) :
    Acts c s (routeEnum address extension payload s) := (Act.address address).acts.trans (placeReturn_acts _ _)

theorem routeReset_acts (address : BitVec 6) (extension : BitVec 15) (payload : List Word) (s : State) :
    Acts c s (routeReset address extension payload s) := Act.chainReset.acts.trans (placeReturn_acts _ _)

theorem dispatchFrame_acts (port : Port) (f : Frame) (s : State) : Acts c s (dispatchFrame port f s) := by
  unfold dispatchFrame
  split
  · unfold dispatchFromS
    split
    · split
      · exact routeSample_acts _ _
      · exact placeForward_acts _ _
    · exact placeForward_acts _ _
  · unfold dispatchFromC
    split
    · exact routeAck_acts _ _ _ _
    · split
      · split
        · exact routeRequest_acts _ _ _
        · exact placeReturn_acts _ _
      · split
        · exact routeEnum_acts _ _ _ _
        · split
          · exact routeReset_acts _ _ _ _
          · exact placeReturn_acts _ _

theorem receiveWords_acts (port : Port) (r : Reception) (s : State) : Acts c s (receiveWords port r s) := by
  unfold receiveWords
  split
  · unfold rejectReception
    split
    · exact framingErrorStep_acts _ _ _
    · exact faultyReception_acts _ _
  · exact receiveFrame_acts (dispatchFrame_acts _ _ _)

/-! ### Commands and steps -/

/-- What is due of a request's command (R168), whichever it is. -/
theorem receiveRequest_acts (code : BitVec 8) (r : Request) {s : State} (hrunning : s.pins = runningPins) :
    ∃ u, receiveRequest code r s = .next (grantStep u) ∧ Acts c s u :=
  ⟨_, whenRunning_running _ hrunning, receiveFrame_acts (routeRequest_acts _ _ _)⟩

/-- Every command of a running part but POWER_ON is a chain of acts, closed by the grant that it makes due (R159). -/
theorem exec_acts {s : State} (hrunning : s.pins = runningPins) (hc : ∀ p, c ≠ .powerOn p) :
    ∃ u, exec c s = .next (grantStep u) ∧ Acts c s u := by
  cases c with
  | powerOn p => exact absurd rfl (hc p)
  | syncReceived port => exact ⟨_, whenRunning_running _ hrunning, syncStep_acts _ _⟩
  | framingError port e => exact ⟨_, whenRunning_running _ hrunning, framingErrorStep_acts _ _ _⟩
  | linkSilenceTimeout port => exact ⟨_, whenRunning_running _ hrunning, silenceTimeoutStep_acts _ _⟩
  | faultyFrame port r => exact ⟨_, whenRunning_running _ hrunning, receiveWords_acts _ _ _⟩
  | sample f => exact ⟨_, whenRunning_running _ hrunning, receiveFrame_acts (routeSample_acts _ _)⟩
  | forwardUnchanged port f => exact ⟨_, whenRunning_running _ hrunning, receiveFrame_acts (dispatchFrame_acts _ _ _)⟩
  | ack a x ws => exact ⟨_, whenRunning_running _ hrunning, receiveFrame_acts (routeAck_acts _ _ _ _)⟩
  | enum a x ws => exact ⟨_, whenRunning_running _ hrunning, receiveFrame_acts (routeEnum_acts _ _ _ _)⟩
  | chainReset a x ws => exact ⟨_, whenRunning_running _ hrunning, receiveFrame_acts (routeReset_acts _ _ _ _)⟩
  | tick => exact ⟨_, whenRunning_running _ hrunning, tickStep_acts _⟩
  | silenceExpiry i => exact ⟨_, whenRunning_running _ hrunning, silenceExpiryStep_acts _ _⟩
  | ackTimerExpiry => exact ⟨_, whenRunning_running _ hrunning, ackTimerExpiryStep_acts _⟩
  | cPortGrant =>
    refine ⟨s, ?_, .none⟩
    have hgrant : exec .cPortGrant s = .next (grantStep (grantStep s)) := whenRunning_running _ hrunning
    rw [hgrant, grantStep_grantStep]
  | sPortTransmitStart =>
    exact ⟨_, whenRunning_running _ hrunning, (Act.sPort s.sLink s.sTransmission s.returnQueue id id (.inr rfl) id).acts⟩
  | transmissionComplete port => exact ⟨_, whenRunning_running _ hrunning, completeStep_acts _ _⟩
  | commitSweepEnd => exact ⟨_, whenRunning_running _ hrunning, sweepEndStep_acts _⟩
  | _ => exact receiveRequest_acts _ _ hrunning

/-- R190: a held part takes no command but POWER_ON. -/
theorem exec_held {s : State} (hheld : s.pins ≠ runningPins) (hc : ∀ p, c ≠ .powerOn p) : exec c s = .next s := by
  cases c with
  | powerOn p => exact absurd rfl (hc p)
  | _ => exact whenRunning_held _ hheld

/-- What a step can do: idle, take POWER_ON, leave a held part as it is, or take a chain of acts and the grant. -/
theorem step_cases {s t : State} (h : step s = .next t) :
    (s.pending = [] ∧ t = s)
    ∨ ∃ c rest, s.pending = c :: rest
      ∧ ((∃ pins, c = .powerOn pins ∧ t = State.powerOn pins rest)
        ∨ (s.pins ≠ runningPins ∧ t = { s with pending := rest })
        ∨ (s.pins = runningPins ∧ ∃ u, Acts c { s with pending := rest } u ∧ t = grantStep u)) := by
  unfold step at h
  split at h
  · rename_i hpending
    exact .inl ⟨hpending, by cases h; rfl⟩
  · rename_i c rest hpending
    refine .inr ⟨c, rest, hpending, ?_⟩
    by_cases hpower : ∃ pins, c = .powerOn pins
    · obtain ⟨pins, rfl⟩ := hpower
      exact .inl ⟨pins, rfl, by cases h; rfl⟩
    · have hc : ∀ pins, c ≠ .powerOn pins := fun pins hp => hpower ⟨pins, hp⟩
      by_cases hrunning : s.pins = runningPins
      · obtain ⟨u, hexec, hacts⟩ := exec_acts (s := { s with pending := rest }) hrunning hc
        exact .inr (.inr ⟨hrunning, u, hacts, by rw [hexec] at h; cases h; rfl⟩)
      · refine .inr (.inl ⟨hrunning, ?_⟩)
        rw [exec_held (s := { s with pending := rest }) hrunning hc] at h
        cases h
        rfl

/-- The induction over the acts of a step, once: a law `P` that a state after power-on meets is kept by every step, if of a
running part every act keeps a law `Q` that `P` implies, and the grant makes `P` of it. -/
theorem step_keeps {P Q : State → Prop} (hqueue : ∀ s q, P s → P { s with pending := q })
    (hpower : ∀ pins q, P (State.powerOn pins q)) (hrunning : ∀ s, s.pins = runningPins → P s → Q s)
    (hact : ∀ c s t, Act c s t → Q s → Q t) (hgrant : ∀ s, Q s → P (grantStep s)) {s t : State} (hs : P s)
    (h : step s = .next t) : P t := by
  rcases step_cases h with ⟨-, rfl⟩ | ⟨c, rest, -, ⟨pins, -, rfl⟩ | ⟨-, rfl⟩ | ⟨hpins, u, hacts, rfl⟩⟩
  · exact hs
  · exact hpower _ _
  · exact hqueue _ _ hs
  · exact hgrant _ (hacts.keep (hact c) (hrunning _ hpins (hqueue _ _ hs)))

end Sys2Proof.Machine

/-! The laws of node control and the capacities, act by act (R186, R190; R88, R142, R146, R154, R156, R159, R169). -/

namespace Sys2Proof.Machine

set_option Elab.async false

open Sys2Proof.Safety

/-! ### What some acts leave -/

theorem removeAcknowledged_eq (d : Nat) (s : State) :
    removeAcknowledged d s =
      { s with
        store := s.store.drop d
        retryCount := 0
        reporter := if numberedCount (s.store.drop d) = 0 then .idle else .awaiting
        ackTimer := if numberedCount (s.store.drop d) = 0 then none else some s.ackTimeout } := by
  unfold removeAcknowledged
  dsimp only
  split <;> rfl

theorem changeMode_eq (m : Mode) (s : State) :
    changeMode m s =
      { s with
        mode := m
        bindings :=
          if s.mode = .transparent ∧ m = .filtering then s.bindings.mapContents (unsettle .resumed) else s.bindings } := by
  unfold changeMode
  split
  · rename_i hmode
    rw [if_pos ⟨hmode, rfl⟩]
  · rename_i hother
    rw [if_neg fun h => hother h.1 h.2]

theorem afterAbort_event (frame : Frame) (sequences : List (BitVec 16)) (r : Record) :
    afterAbort (some (.event frame sequences)) r = abortRecord sequences r := by
  obtain ⟨body, delivery, mergeCount, timestamp⟩ := r
  cases delivery <;> rfl

theorem abortCTransmission_eq (s : State) :
    abortCTransmission s =
      { s with cTransmission := none, store := s.store.map (afterAbort s.cTransmission) } := by
  unfold abortCTransmission
  split
  · rename_i frame sequences htransmission
    congr 2
    funext r
    rw [htransmission, afterAbort_event]
  · rename_i hother
    congr 1
    symm
    refine (List.map_congr_left fun r _ => ?_).trans (List.map_id _)
    unfold afterAbort
    split
    · rename_i htransmission _
      exact absurd htransmission (hother _ _)
    · rfl

theorem startSTransmission_cases (s : State) :
    (startSTransmission s = s ∧ (isUp s.sLink → s.sTransmission = none → s.returnQueue = []))
    ∨ ∃ f rest, isUp s.sLink ∧ s.sTransmission = none ∧ s.returnQueue = f :: rest
        ∧ startSTransmission s = { s with sTransmission := some f, returnQueue := rest } := by
  unfold startSTransmission
  split
  · rename_i n a f rest hlink hidle hqueue
    exact .inr ⟨f, rest, by rw [hlink]; rfl, hidle, hqueue, rfl⟩
  · rename_i hother
    refine .inl ⟨rfl, fun hup hidle => ?_⟩
    cases hlink : s.sLink with
    | up n a =>
      cases hqueue : s.returnQueue with
      | nil => rfl
      | cons f rest => exact (hother n a f rest hlink hidle hqueue).elim
    | down => rw [hlink] at hup; cases hup
    | acquiring n o a => rw [hlink] at hup; cases hup

theorem isUp_iff {l : Link} : isUp l = true ↔ ∃ n a, l = .up n a := by
  cases l <;> simp [isUp]

/-- What the grant can do (R160): nothing, or send a response, a forwarded frame or an EVENT frame. -/
theorem grantStep_cases (s : State) :
    grantStep s = s
    ∨ (isUp s.cLink ∧ s.cTransmission = none
        ∧ ((∃ r rest, s.responses = r :: rest
              ∧ grantStep s =
                { s with responses := rest, cTransmission := some (.response (responseFrame s.address r)), forwardCount := 0 })
          ∨ (∃ f rest, s.responses = [] ∧ s.forwardQueue = f :: rest
              ∧ grantStep s =
                { s with
                  forwardQueue := rest, cTransmission := some (.forwarded f)
                  forwardCount := min Config.maxForwardCount (s.forwardCount + 1) })
          ∨ (s.responses = [] ∧ deliveryReady s ∧ grantStep s = grantDelivery s))) := by
  by_cases hdue : isUp s.cLink ∧ s.cTransmission = none
  · obtain ⟨hup, hidle⟩ := hdue
    obtain ⟨n, a, hlink⟩ := isUp_iff.mp hup
    rw [grantStep_of_idle hlink hidle]
    unfold grantChoice
    cases hresponses : s.responses with
    | cons r rest => exact .inr ⟨hup, hidle, .inl ⟨r, rest, rfl, rfl⟩⟩
    | nil =>
      dsimp only
      split
      · rename_i hready
        exact .inr ⟨hup, hidle, .inr (.inr ⟨rfl, (Bool.and_eq_true_iff.mp hready).1, rfl⟩)⟩
      · cases hforward : s.forwardQueue with
        | cons f rest => exact .inr ⟨hup, hidle, .inr (.inl ⟨f, rest, rfl, rfl, rfl⟩)⟩
        | nil =>
          dsimp only
          split
          · rename_i hready
            exact .inr ⟨hup, hidle, .inr (.inr ⟨rfl, hready, rfl⟩)⟩
          · exact .inl rfl
  · refine .inl (grantStep_of_busy ?_)
    by_cases hup : isUp s.cLink
    · exact .inr fun hidle => hdue ⟨hup, hidle⟩
    · exact .inl fun n a hlink => hup (isUp_iff.mpr ⟨n, a, hlink⟩)

/-! ### The address law and the held part -/

variable {c : Instr} {s t : State}

theorem Act.pins (h : Act c s t) : t.pins = s.pins := by
  cases h with
  | link port => exact setLink_pins _ _ _
  | cut port =>
    cases port with
    | s => rfl
    | c => rw [cutLink, abortCTransmission_eq]
  | sPort => exact startSTransmission_pins _
  | address a => unfold takeAddress; split <;> rfl
  | mode m => rw [changeMode_eq]
  | acknowledge d => rw [removeAcknowledged_eq]
  | _ => rfl

/-- R186, act by act: ENUM, a chain reset and SET_MODE alone write the address or the mode. -/
theorem Act.addressLaw (h : Act c s t) (hs : AddressLaw s) : AddressLaw t := by
  cases h with
  | address a =>
    by_cases hgives : givesAddress a = true
    · obtain ⟨hzero, hlast⟩ := givesAddress_iff.mp hgives
      rw [takeAddress_of_gives _ hgives]
      refine ⟨iff_of_false hzero ?_, hlast⟩
      dsimp only
      split
      · exact nofun
      · assumption
    · rw [takeAddress_of_gives_none _ (Bool.eq_false_iff.mpr hgives)]
      exact hs
  | mode m before after =>
    rw [changeMode_eq]
    exact ⟨iff_of_false (fun h => before (hs.1.mp h)) after, hs.2⟩
  | chainReset => exact ⟨iff_of_true rfl rfl, show (0 : BitVec 6) ≠ 63 by decide⟩
  | link port => cases port <;> exact hs
  | cut port =>
    cases port with
    | s => exact hs
    | c => rw [cutLink, abortCTransmission_eq]; exact hs
  | sPort =>
    rw [startSTransmission_writes]
    exact hs
  | acknowledge d =>
    rw [removeAcknowledged_eq]
    exact hs
  | _ => exact hs

theorem addressLaw_grantStep (hs : AddressLaw s) : AddressLaw (grantStep s) := by
  rw [AddressLaw, grantStep_address, grantStep_mode]
  exact hs

theorem addressLaw_powerOn (pins : Pins) (q : List Instr) : AddressLaw (State.powerOn pins q) :=
  ⟨iff_of_true rfl rfl, show (0 : BitVec 6) ≠ 63 by decide⟩

/-- Settles O55: node control's acts keep the address law, and a part that runs is not held. -/
theorem stepKeepsAddressLaw : Obligations.StepKeepsAddressLaw := by
  intro s t hs hstep
  refine step_keeps (P := fun s => AddressLaw s ∧ HeldLaw s) (Q := fun s => AddressLaw s ∧ s.pins = runningPins)
    ?queue ?power ?running ?act ?grant hs hstep
  case queue =>
    rintro s q ⟨haddress, hheld⟩
    refine ⟨haddress, fun hpins => ?_⟩
    rw [hheld hpins]
    rfl
  case power => exact fun pins q => ⟨addressLaw_powerOn pins q, fun _ => rfl⟩
  case running => exact fun s hpins hs => ⟨hs.1, hpins⟩
  case act => exact fun c s t h hs => ⟨h.addressLaw hs.1, h.pins.trans hs.2⟩
  case grant => exact fun s hs => ⟨addressLaw_grantStep hs.1, fun hpins => absurd ((grantStep_pins s).trans hs.2) hpins⟩

/-! ### Capacities -/

theorem takeRecords_length (resends unsents : Nat) (next : BitVec 16) (rs : List Record) :
    (takeRecords resends unsents next rs).store.length = rs.length := by
  induction rs generalizing resends unsents next with
  | nil => rfl
  | cons r rest ih =>
    rw [takeRecords]
    split
    · simp [Assembly.keep, ih]
    · split <;> simp [Assembly.keep, Assembly.take, ih]
    · split <;> simp [Assembly.keep, Assembly.take, ih]

theorem cacheWith_length {r : Response} {cache : List Response} (h : cache.length ≤ 4) : (cacheWith r cache).length ≤ 4 := by
  unfold cacheWith
  split
  · rename_i hany
    obtain ⟨e, he, htag⟩ := List.any_eq_true.mp hany
    have hshorter : (cache.filter fun e => e.tag != r.tag).length < cache.length :=
      List.length_filter_lt_length_iff_exists.mpr ⟨e, he, by simpa using htag⟩
    rw [List.length_append, List.length_singleton]
    omega
  · split
    · rename_i hroom
      rw [List.length_append, List.length_singleton]
      exact hroom
    · rw [List.length_append, List.length_singleton, List.length_tail]
      omega

theorem cacheWith_tags {r : Response} {cache : List Response} (h : (cache.map Response.tag).Pairwise (· ≠ ·)) :
    ((cacheWith r cache).map Response.tag).Pairwise (· ≠ ·) := by
  have hbehind : ∀ kept : List Response, kept.Sublist cache → (∀ e ∈ kept, e.tag ≠ r.tag) →
      ((kept ++ [r]).map Response.tag).Pairwise (· ≠ ·) := by
    intro kept hkept hother
    rw [List.map_append, List.pairwise_append]
    refine ⟨h.sublist (hkept.map _), List.pairwise_singleton _ _, ?_⟩
    intro a ha b hb
    obtain ⟨e, he, rfl⟩ := List.mem_map.mp ha
    rw [List.map_singleton, List.mem_singleton] at hb
    exact hb ▸ hother e he
  unfold cacheWith
  split
  · exact hbehind _ List.filter_sublist fun e he => by simpa using (List.mem_filter.mp he).2
  · rename_i hnone
    have hother : ∀ e ∈ cache, e.tag ≠ r.tag := by simpa using hnone
    split
    · exact hbehind _ (List.Sublist.refl _) hother
    · exact hbehind _ (List.tail_sublist _) fun e he => hother e (List.mem_of_mem_tail he)

/-- R88, R154, R159, R169, act by act. -/
theorem Act.capacityLaw (h : Act c s t) (hs : CapacityLaw s) : CapacityLaw t := by
  obtain ⟨hstore, hforward, hreturn, hresponses, hcache, hcount⟩ := hs
  cases h with
  | append body room =>
    refine ⟨?_, hforward, hreturn, hresponses, hcache, hcount⟩
    rw [appendRecord_store, List.length_append]
    exact room
  | rewriteStore store same =>
    have hlength : store.length = s.store.length := by simpa using congrArg List.length same
    exact ⟨hlength.trans_le hstore, hforward, hreturn, hresponses, hcache, hcount⟩
  | dropUnnumbered keep numbered =>
    exact ⟨(List.length_filter_le _ _).trans hstore, hforward, hreturn, hresponses, hcache, hcount⟩
  | link port => cases port <;> exact ⟨hstore, hforward, hreturn, hresponses, hcache, hcount⟩
  | cut port =>
    cases port with
    | s => exact ⟨hstore, hforward, Nat.zero_le _, hresponses, hcache, hcount⟩
    | c =>
      rw [cutLink, abortCTransmission_eq]
      exact ⟨(List.length_map _).trans_le hstore, Nat.zero_le _, hreturn, Nat.zero_le _, hcache, hcount⟩
  | sPort l transmission queue up bounded idle capacity =>
    have hqueue := capacity hreturn
    rcases startSTransmission_cases { s with sLink := l, sTransmission := transmission, returnQueue := queue } with
      ⟨hsame, -⟩ | ⟨f, rest, -, -, hcons, htakes⟩
    · rw [hsame]
      exact ⟨hstore, hforward, hqueue, hresponses, hcache, hcount⟩
    · rw [htakes]
      replace hcons : queue = f :: rest := hcons
      rw [hcons, List.length_cons] at hqueue
      exact ⟨hstore, hforward, (Nat.le_succ _).trans hqueue, hresponses, hcache, hcount⟩
  | forward f room =>
    refine ⟨hstore, ?_, hreturn, hresponses, hcache, hcount⟩
    rw [List.length_append]
    exact room
  | queue r room =>
    refine ⟨hstore, hforward, hreturn, ?_, hcache, hcount⟩
    rw [List.length_append]
    exact room
  | cacheEntry r => exact ⟨hstore, hforward, hreturn, hresponses, cacheWith_length hcache, hcount⟩
  | address a => unfold takeAddress; split <;> exact ⟨hstore, hforward, hreturn, hresponses, hcache, hcount⟩
  | mode m =>
    rw [changeMode_eq]
    exact ⟨hstore, hforward, hreturn, hresponses, hcache, hcount⟩
  | chainReset =>
    exact ⟨Nat.zero_le _, Nat.zero_le _, Nat.zero_le _, Nat.zero_le _, Nat.zero_le _, Nat.zero_le _⟩
  | restart => exact ⟨Nat.zero_le _, hforward, hreturn, hresponses, Nat.zero_le _, Nat.zero_le _⟩
  | acknowledge d =>
    rw [removeAcknowledged_eq]
    refine ⟨?_, hforward, hreturn, hresponses, hcache, hcount⟩
    rw [List.length_drop]
    exact (Nat.sub_le _ _).trans hstore
  | _ => exact ⟨hstore, hforward, hreturn, hresponses, hcache, hcount⟩

/-- R169, act by act: the cache is written at an entry, and emptied by a reset. -/
theorem Act.cacheLaw (h : Act c s t) (hs : CacheLaw s) : CacheLaw t := by
  cases h with
  | cacheEntry r => exact cacheWith_tags hs
  | chainReset => exact List.Pairwise.nil
  | restart => exact List.Pairwise.nil
  | link port => cases port <;> exact hs
  | cut port =>
    cases port with
    | s => exact hs
    | c => rw [cutLink, abortCTransmission_eq]; exact hs
  | sPort =>
    rw [startSTransmission_writes]
    exact hs
  | address a => unfold takeAddress; split <;> exact hs
  | mode m => rw [changeMode_eq]; exact hs
  | acknowledge d => rw [removeAcknowledged_eq]; exact hs
  | _ => exact hs

/-- The clauses of the port law that every act keeps; the last one, of the C transmitter, is the grant's. -/
abbrev PortCore (s : State) : Prop :=
  linkBounded s.sLink ∧ linkBounded s.cLink ∧ (s.sTransmission.isSome → isUp s.sLink)
    ∧ (s.cTransmission.isSome → isUp s.cLink) ∧ (isUp s.sLink → s.sTransmission = none → s.returnQueue = [])

theorem transmissionAfterRestart_isSome {x : Option CTransmission} (h : (transmissionAfterRestart x).isSome) : x.isSome := by
  cases x with
  | none => exact h
  | some y => rfl

/-- R142, R144, R146, R156, act by act. -/
theorem Act.portCore (h : Act c s t) (hs : PortCore s) : PortCore t := by
  obtain ⟨hsBound, hcBound, hsUp, hcUp, hidle⟩ := hs
  cases h with
  | link port l up bounded =>
    cases port with
    | s => exact ⟨bounded hsBound, hcBound, fun h => up.trans (hsUp h), hcUp, fun h => hidle (up.symm.trans h)⟩
    | c => exact ⟨hsBound, bounded hcBound, hsUp, fun h => up.trans (hcUp h), hidle⟩
  | cUp => exact ⟨hsBound, rfl, hsUp, fun _ => rfl, hidle⟩
  | cut port =>
    cases port with
    | s => exact ⟨rfl, hcBound, nofun, hcUp, fun _ _ => rfl⟩
    | c =>
      rw [cutLink, abortCTransmission_eq]
      exact ⟨hsBound, rfl, hsUp, nofun, hidle⟩
  | sPort l transmission queue up bounded idle capacity =>
    rcases startSTransmission_cases { s with sLink := l, sTransmission := transmission, returnQueue := queue } with
      ⟨hsame, hnone⟩ | ⟨f, rest, hup, -, -, htakes⟩
    · rw [hsame]
      refine ⟨bounded hsBound, hcBound, fun h => ?_, hcUp, hnone⟩
      rcases idle with rfl | rfl
      · cases h
      · exact up (hsUp h)
    · rw [htakes]
      exact ⟨bounded hsBound, hcBound, fun _ => hup, hcUp, nofun⟩
  | complete => exact ⟨hsBound, hcBound, hsUp, nofun, hidle⟩
  | address a => unfold takeAddress; split <;> exact ⟨hsBound, hcBound, hsUp, hcUp, hidle⟩
  | mode m =>
    rw [changeMode_eq]
    exact ⟨hsBound, hcBound, hsUp, hcUp, hidle⟩
  | chainReset => exact ⟨hsBound, hcBound, nofun, nofun, fun _ _ => rfl⟩
  | restart => exact ⟨hsBound, hcBound, hsUp, fun h => hcUp (transmissionAfterRestart_isSome h), hidle⟩
  | acknowledge d =>
    rw [removeAcknowledged_eq]
    exact ⟨hsBound, hcBound, hsUp, hcUp, hidle⟩
  | _ => exact ⟨hsBound, hcBound, hsUp, hcUp, hidle⟩

theorem capacityLaw_grantStep (hs : CapacityLaw s) : CapacityLaw (grantStep s) := by
  obtain ⟨hstore, hforward, hreturn, hresponses, hcache, hcount⟩ := hs
  rcases grantStep_cases s with h | ⟨-, -, ⟨r, rest, hcons, h⟩ | ⟨f, rest, -, hcons, h⟩ | ⟨-, -, h⟩⟩ <;> rw [h]
  · exact ⟨hstore, hforward, hreturn, hresponses, hcache, hcount⟩
  · rw [hcons, List.length_cons] at hresponses
    exact ⟨hstore, hforward, hreturn, (Nat.le_succ _).trans hresponses, hcache, Nat.zero_le _⟩
  · rw [hcons, List.length_cons] at hforward
    exact ⟨hstore, (Nat.le_succ _).trans hforward, hreturn, hresponses, hcache, min_le_left _ _⟩
  · exact ⟨(takeRecords_length _ _ _ _).trans_le hstore, hforward, hreturn, hresponses, hcache, Nat.zero_le _⟩

theorem cacheLaw_grantStep (hs : CacheLaw s) : CacheLaw (grantStep s) := by
  rw [CacheLaw, grantStep_cache]
  exact hs

/-- R159: after the grant an idle transmitter of an UP C port has nothing to send, and it begins on an UP port alone. -/
theorem portLaw_grantStep (hs : PortCore s) : PortLaw (grantStep s) := by
  obtain ⟨hsBound, hcBound, hsUp, hcUp, hidle⟩ := hs
  simp only [PortLaw, grantStep_sLink, grantStep_cLink, grantStep_sTransmission, grantStep_returnQueue]
  refine ⟨hsBound, hcBound, hsUp, fun hsome => ?_, hidle, fun hup hnone => ?_⟩
  · rcases grantStep_cases s with h | ⟨hup, -⟩
    · exact hcUp (h ▸ hsome)
    · exact hup
  · obtain ⟨n, a, hlink⟩ := isUp_iff.mp hup
    obtain ⟨hresponses, hforward, hready, hsame⟩ := grantStep_settles hlink hnone
    rw [hsame]
    exact ⟨hresponses, hforward, hready⟩

theorem capacityLaw_powerOn (pins : Pins) (q : List Instr) : CapacityLaw (State.powerOn pins q) := by
  simp [CapacityLaw, State.powerOn]

theorem portLaw_powerOn (pins : Pins) (q : List Instr) : PortLaw (State.powerOn pins q) :=
  ⟨rfl, rfl, nofun, nofun, nofun, nofun⟩

/-- Settles O56: every act keeps the capacities and the port law but for its last clause, which the grant makes good. -/
theorem stepKeepsCapacities : Obligations.StepKeepsCapacities := by
  intro s t hs hstep
  refine step_keeps (P := fun s => CapacityLaw s ∧ CacheLaw s ∧ PortLaw s)
    (Q := fun s => CapacityLaw s ∧ CacheLaw s ∧ PortCore s) (fun s q hs => hs) ?power ?running ?act ?grant hs hstep
  case power => exact fun pins q => ⟨capacityLaw_powerOn pins q, .nil, portLaw_powerOn pins q⟩
  case running =>
    rintro s - ⟨hcapacity, hcache, hsBound, hcBound, hsUp, hcUp, hidle, -⟩
    exact ⟨hcapacity, hcache, hsBound, hcBound, hsUp, hcUp, hidle⟩
  case act => exact fun c s t h hs => ⟨h.capacityLaw hs.1, h.cacheLaw hs.2.1, h.portCore hs.2.2⟩
  case grant => exact fun s hs => ⟨capacityLaw_grantStep hs.1, cacheLaw_grantStep hs.2.1, portLaw_grantStep hs.2.2⟩

end Sys2Proof.Machine

/-! The laws of the delivery engine, act by act (R92, R111, R112, R125). Numbering is a matter of the sequence numbers that the
records carry, oldest first: the numbers that end at next − 1, and then none. -/

namespace Sys2Proof.Machine

set_option Elab.async false

open Sys2Proof.Safety

variable {c : Instr} {s t : State}

/-! ### The sequence numbers of a store -/

theorem numberedCount_eq_countP (store : List Record) :
    numberedCount store = (store.map recordSequence).countP Option.isSome := by
  rw [numberedCount, List.countP_map]
  rfl

theorem numberedCount_congr {store store' : List Record} (h : store'.map recordSequence = store.map recordSequence) :
    numberedCount store' = numberedCount store := by
  rw [numberedCount_eq_countP, numberedCount_eq_countP, h]

@[simp] theorem sequencesBefore_length (next : BitVec 16) (m : Nat) : (sequencesBefore next m).length = m := by
  simp [sequencesBefore]

theorem sequencesBefore_drop (next : BitVec 16) {d m : Nat} (h : d ≤ m) :
    (sequencesBefore next m).drop d = sequencesBefore next (m - d) := by
  refine List.ext_getElem (by simp) fun k hk _ => ?_
  have hsplit : BitVec.ofNat 16 m = BitVec.ofNat 16 (m - d) + BitVec.ofNat 16 d := by
    rw [← BitVec.ofNat_add, Nat.sub_add_cancel h]
  simp only [sequencesBefore, List.getElem_drop, List.getElem_map, List.getElem_range, BitVec.ofNat_add, hsplit]
  ring

theorem ofNat_succ_word (n : Nat) : BitVec.ofNat 16 (n + 1) = BitVec.ofNat 16 n + 1 := BitVec.ofNat_add n 1

/-- One more number, the next one, behind the numbers that end at next − 1. -/
theorem sequencesBefore_succ (next : BitVec 16) (m : Nat) :
    sequencesBefore next m ++ [next] = sequencesBefore (next + 1) (m + 1) := by
  have hshift : ∀ k : Nat,
      next + 1 - BitVec.ofNat 16 (m + 1) + BitVec.ofNat 16 k = next - BitVec.ofNat 16 m + BitVec.ofNat 16 k := by
    intro k
    rw [ofNat_succ_word]
    ring
  simp only [sequencesBefore, hshift, List.range_succ, List.map_append, List.map_singleton, BitVec.sub_add_cancel]

/-- The store in the order of R92: the numbers that end at next − 1 stand in front, and `k` records without one follow. -/
def Numbered (next : BitVec 16) (m k : Nat) (sequences : List (Option (BitVec 16))) : Prop :=
  sequences = (sequencesBefore next m).map some ++ List.replicate k none

theorem eq_append_replicate_none {α : Type} {l : List (Option α)} (h : l.Pairwise fun a b => b.isSome → a.isSome) :
    l = l.reduceOption.map some ++ List.replicate (l.length - l.reduceOption.length) none := by
  induction l with
  | nil => rfl
  | cons a rest ih =>
    obtain ⟨hhead, htail⟩ := List.pairwise_cons.mp h
    cases a with
    | some x =>
      rw [List.reduceOption_cons_of_some, List.map_cons, List.length_cons, List.length_cons, Nat.add_sub_add_right,
        List.cons_append, ← ih htail]
    | none =>
      have hnone : ∀ b ∈ rest, b = none := by simpa using hhead
      obtain ⟨n, rfl⟩ : ∃ n, rest = List.replicate n none := ⟨_, List.eq_replicate_iff.mpr ⟨rfl, hnone⟩⟩
      simp [List.reduceOption, ← List.replicate_succ]

theorem pairwise_of_numbered {next : BitVec 16} {m k : Nat} {sequences : List (Option (BitVec 16))}
    (h : Numbered next m k sequences) : sequences.Pairwise fun a b => b.isSome → a.isSome := by
  rw [h, List.pairwise_append]
  refine ⟨?_, ?_, ?_⟩
  · exact List.pairwise_map.mpr (List.pairwise_of_forall fun _ _ _ => rfl)
  · exact List.pairwise_replicate.mpr (.inr id)
  · intro a ha b hb hsome
    rw [List.eq_of_mem_replicate hb] at hsome
    cases hsome

theorem countP_of_numbered {next : BitVec 16} {m k : Nat} {sequences : List (Option (BitVec 16))}
    (h : Numbered next m k sequences) : sequences.countP Option.isSome = m := by
  rw [h, List.countP_append, List.countP_map, List.countP_replicate]
  simp [Function.comp_def]

theorem reduceOption_of_numbered {next : BitVec 16} {m k : Nat} {sequences : List (Option (BitVec 16))}
    (h : Numbered next m k sequences) : sequences.reduceOption = sequencesBefore next m := by
  rw [h, List.reduceOption_append]
  simp [List.reduceOption]

theorem numberedCount_of_numbered {next : BitVec 16} {m k : Nat} {store : List Record}
    (h : Numbered next m k (store.map recordSequence)) : numberedCount store = m :=
  (numberedCount_eq_countP store).trans (countP_of_numbered h)

/-- R92: the numbering law says in which order the sequence numbers stand. -/
theorem numberingLaw_iff :
    NumberingLaw s ↔ ∃ k, Numbered s.nextSequence (numberedCount s.store) k (s.store.map recordSequence) := by
  have hreduce : storeSequences s = (s.store.map recordSequence).reduceOption := by
    rw [storeSequences, List.reduceOption, List.filterMap_map]
    rfl
  rw [NumberingLaw, hreduce]
  constructor
  · rintro ⟨horder, hsequences⟩
    have hsplit := eq_append_replicate_none (List.pairwise_map.mpr horder)
    rw [hsequences] at hsplit
    exact ⟨_, hsplit⟩
  · rintro ⟨k, h⟩
    exact ⟨List.pairwise_map.mp (pairwise_of_numbered h), reduceOption_of_numbered h⟩

theorem numberingLaw_of_numbered {m k : Nat} (h : Numbered s.nextSequence m k (s.store.map recordSequence)) : NumberingLaw s :=
  numberingLaw_iff.mpr ⟨k, by rwa [numberedCount_of_numbered h]⟩

/-! ### What a grant to delivery makes of the numbers -/

/-- Records that carry a number keep it, whether they are taken or not. -/
theorem takeRecords_numbered_append {rs : List Record} (hrs : ∀ r ∈ rs, (recordSequence r).isSome) (rest : List Record)
    (resends unsents : Nat) (next : BitVec 16) :
    ∃ resends', (takeRecords resends unsents next (rs ++ rest)).store.map recordSequence
        = rs.map recordSequence ++ (takeRecords resends' unsents next rest).store.map recordSequence
      ∧ (takeRecords resends unsents next (rs ++ rest)).nextSequence = (takeRecords resends' unsents next rest).nextSequence := by
  induction rs generalizing resends with
  | nil => exact ⟨resends, rfl, rfl⟩
  | cons r rs ih =>
    obtain ⟨hr, hrest⟩ := List.forall_mem_cons.mp hrs
    rw [List.cons_append, takeRecords]
    split
    · rename_i n hsent
      obtain ⟨resends', hstore, hnext⟩ := ih hrest resends
      exact ⟨resends', by simp [Assembly.keep, hstore], by simpa [Assembly.keep] using hnext⟩
    · rename_i n hresend
      have hn : recordSequence { r with delivery := .sent n } = recordSequence r := by rw [recordSequence, recordSequence, hresend]
      split
      · obtain ⟨resends', hstore, hnext⟩ := ih hrest (resends - 1)
        exact ⟨resends', by simp [Assembly.take, hstore, hn], by simpa [Assembly.take] using hnext⟩
      · obtain ⟨resends', hstore, hnext⟩ := ih hrest resends
        exact ⟨resends', by simp [Assembly.keep, hstore], by simpa [Assembly.keep] using hnext⟩
    · rename_i hunsent
      rw [recordSequence, hunsent] at hr
      cases hr

/-- Records without a number are numbered from the next one on, as many as there are places. -/
theorem takeRecords_unsent {rs : List Record} (hrs : ∀ r ∈ rs, r.delivery = .unsent) (resends unsents m : Nat)
    (next : BitVec 16) :
    let j := min unsents rs.length
    ((sequencesBefore next m).map some ++ (takeRecords resends unsents next rs).store.map recordSequence
        = (sequencesBefore (next + BitVec.ofNat 16 j) (m + j)).map some ++ List.replicate (rs.length - j) none)
    ∧ (takeRecords resends unsents next rs).nextSequence = next + BitVec.ofNat 16 j := by
  induction rs generalizing unsents m next with
  | nil => simp [takeRecords]
  | cons r rs ih =>
    obtain ⟨hr, hrest⟩ := List.forall_mem_cons.mp hrs
    have hnone : recordSequence r = none := by rw [recordSequence, hr]
    rw [takeRecords, hr]
    dsimp only
    split
    · rename_i hplace
      obtain ⟨u, rfl⟩ := Nat.exists_eq_succ_of_ne_zero hplace.ne'
      obtain ⟨hstore, hnext⟩ := ih hrest u (m + 1) (next + 1)
      have hj : min (u + 1) (rs.length + 1) = min u rs.length + 1 := Nat.succ_min_succ _ _
      have hshift : next + 1 + BitVec.ofNat 16 (min u rs.length) = next + BitVec.ofNat 16 (min u rs.length + 1) := by
        rw [ofNat_succ_word]
        ring
      simp only [List.length_cons, Nat.succ_eq_add_one, hj, Nat.add_sub_cancel]
      refine ⟨?_, hnext.trans hshift⟩
      rw [Nat.add_sub_add_right, ← hshift, ← Nat.add_assoc, Nat.add_right_comm, ← hstore, ← sequencesBefore_succ]
      simp [Assembly.take, recordSequence]
    · rename_i hplace
      obtain rfl : unsents = 0 := Nat.eq_zero_of_not_pos hplace
      obtain ⟨hstore, hnext⟩ := ih hrest 0 m next
      simp only [Nat.zero_min, Nat.add_zero, Nat.sub_zero] at hstore hnext ⊢
      refine ⟨?_, hnext⟩
      have hbehind := List.append_cancel_left ((by simpa using hstore :
        (sequencesBefore next m).map some ++ (takeRecords resends 0 next rs).store.map recordSequence
          = (sequencesBefore next m).map some ++ List.replicate rs.length none))
      simp [Assembly.keep, hnone, hbehind, List.replicate_succ]

/-- R92, R115: a grant to delivery numbers the first records without a number, and leaves the order. -/
theorem assemble_numbered {store : List Record} {next : BitVec 16} {m k : Nat}
    (h : Numbered next m k (store.map recordSequence)) :
    ∃ j k', Numbered (assemble store next).nextSequence (m + j) k' ((assemble store next).store.map recordSequence)
      ∧ (assemble store next).nextSequence = next + BitVec.ofNat 16 j ∧ j ≤ 8 := by
  obtain ⟨numbered, rest, rfl, hnumbered, hrest⟩ := List.map_eq_append_iff.mp h
  have hsome : ∀ r ∈ numbered, (recordSequence r).isSome := by
    intro r hr
    have hmem := List.mem_map_of_mem (f := recordSequence) hr
    rw [hnumbered] at hmem
    obtain ⟨n, -, hn⟩ := List.mem_map.mp hmem
    rw [← hn]
    rfl
  have hunsent : ∀ r ∈ rest, r.delivery = .unsent := by
    intro r hr
    have hmem := List.mem_map_of_mem (f := recordSequence) hr
    rw [hrest] at hmem
    have hnone := List.eq_of_mem_replicate hmem
    unfold recordSequence at hnone
    split at hnone
    · assumption
    · cases hnone
    · cases hnone
  obtain ⟨resends, hstore, hnext⟩ := takeRecords_numbered_append hsome rest Config.recordsPerFrame
    (Config.recordsPerFrame - (numbered ++ rest).countP isResend) next
  obtain ⟨hunsents, hnumber⟩ := takeRecords_unsent hunsent resends
    (Config.recordsPerFrame - (numbered ++ rest).countP isResend) m next
  refine ⟨_, rest.length - min (Config.recordsPerFrame - (numbered ++ rest).countP isResend) rest.length, ?_,
    hnext.trans hnumber, (min_le_left _ _).trans (Nat.sub_le _ _)⟩
  rw [Numbered, assemble, hstore, hnext, hnumbered, hunsents, hnumber]

/-! ### What the engine's acts leave -/

theorem afterAbort_sequence (x : Option CTransmission) (r : Record) : recordSequence (afterAbort x r) = recordSequence r := by
  unfold afterAbort
  split
  · rename_i hsent
    split
    · rw [recordSequence, recordSequence, hsent]
    · rfl
  · rfl

theorem numberingLaw_congr (hnext : t.nextSequence = s.nextSequence)
    (hstore : t.store.map recordSequence = s.store.map recordSequence) (hs : NumberingLaw s) : NumberingLaw t := by
  obtain ⟨k, hk⟩ := numberingLaw_iff.mp hs
  exact numberingLaw_of_numbered (by rw [hnext, hstore]; exact hk)

theorem numberingLaw_append {body : Body} (hs : NumberingLaw s) : NumberingLaw (appendRecord body s) := by
  obtain ⟨k, hk⟩ := numberingLaw_iff.mp hs
  refine numberingLaw_of_numbered (m := numberedCount s.store) (k := k + 1) ?_
  rw [appendRecord_store, appendRecord_nextSequence, List.map_append, hk, Numbered, List.replicate_succ', List.append_assoc]
  rfl

theorem numberedCount_filter {keep : Record → Bool} {store : List Record}
    (numbered : ∀ r, (recordSequence r).isSome → keep r = true) :
    numberedCount (store.filter keep) = numberedCount store := by
  rw [numberedCount, numberedCount, List.countP_filter]
  refine List.countP_congr fun r _ => ?_
  rw [Bool.and_eq_true]
  exact ⟨fun h => h.1, fun h => ⟨h, numbered r h⟩⟩

theorem numberingLaw_filter {keep : Record → Bool} (numbered : ∀ r, (recordSequence r).isSome → keep r = true)
    (hs : NumberingLaw s) : NumberingLaw { s with store := s.store.filter keep } := by
  obtain ⟨horder, hsequences⟩ := hs
  refine ⟨horder.sublist List.filter_sublist, ?_⟩
  rw [numberedCount_filter numbered, ← hsequences, storeSequences, storeSequences, List.filterMap_filter]
  refine List.filterMap_congr fun r _ => ?_
  split
  · rfl
  · rename_i hdropped
    cases hsequence : recordSequence r with
    | none => rfl
    | some n => exact absurd (numbered r (by rw [hsequence]; rfl)) hdropped

/-- Removing the d oldest numbered records leaves the others in their order. -/
theorem drop_numbered {next : BitVec 16} {d m k : Nat} {store : List Record} (hd : d ≤ m)
    (h : Numbered next m k (store.map recordSequence)) : Numbered next (m - d) k ((store.drop d).map recordSequence) := by
  rw [List.map_drop, h, List.drop_append_of_le_length (by simpa using hd), ← List.map_drop, sequencesBefore_drop next hd]
  rfl

theorem numberedCount_drop {d : Nat} (hd : d ≤ numberedCount s.store) (hs : NumberingLaw s) :
    numberedCount (s.store.drop d) = numberedCount s.store - d := by
  obtain ⟨k, hk⟩ := numberingLaw_iff.mp hs
  exact numberedCount_of_numbered (drop_numbered hd hk)

theorem deliveryLaw_acknowledge {d : Nat} (hd : d ≤ numberedCount s.store) (hs : DeliveryLaw s) :
    DeliveryLaw (removeAcknowledged d s) := by
  obtain ⟨hnumbering, -, -, htimeoutLow, htimeoutHigh, hlimitLow, hlimitHigh, -⟩ := hs
  obtain ⟨k, hk⟩ := numberingLaw_iff.mp hnumbering
  rw [removeAcknowledged_eq]
  refine ⟨numberingLaw_of_numbered (drop_numbered hd hk), ?_, ?_, htimeoutLow, htimeoutHigh, hlimitLow, hlimitHigh, Nat.zero_le _⟩
  · by_cases hnone : numberedCount (s.store.drop d) = 0
    · simp [ReporterLaw, hnone]
    · simp [ReporterLaw, hnone]
  · intro n hn
    dsimp only at hn ⊢
    split at hn
    · cases hn
    · obtain rfl := Option.some.inj hn
      exact ⟨by rw [if_neg (by assumption)], htimeoutLow, htimeoutHigh⟩

/-! ### The laws -/

theorem numberingLaw_empty (h : s.store = []) : NumberingLaw s :=
  numberingLaw_of_numbered (m := 0) (k := 0) (by rw [h]; rfl)

/-- R92, R111, R112, R125, act by act. -/
theorem Act.deliveryLaw (h : Act c s t) (hs : DeliveryLaw s) : DeliveryLaw t := by
  obtain ⟨hnumbering, hreporter, htimer, hretry⟩ := hs
  have ⟨htimeoutLow, htimeoutHigh, hlimitLow, hlimitHigh, hcount⟩ := hretry
  have hwaits : ∀ n, s.ackTimer = some n → numberedCount s.store ≠ 0 := by
    intro n hn hnone
    have hawaiting := (htimer n hn).1
    rw [hreporter.mpr hnone] at hawaiting
    cases hawaiting
  cases h with
  | append body room =>
    refine ⟨numberingLaw_append hnumbering, ?_, htimer, hretry⟩
    rw [ReporterLaw, appendRecord_store, numberedCount, List.countP_append]
    exact hreporter
  | rewriteStore store same =>
    refine ⟨numberingLaw_congr (s := s) rfl same hnumbering, ?_, htimer, hretry⟩
    rw [ReporterLaw, numberedCount_congr same]
    exact hreporter
  | dropUnnumbered keep numbered =>
    refine ⟨numberingLaw_filter numbered hnumbering, ?_, htimer, hretry⟩
    rw [ReporterLaw, numberedCount_filter numbered]
    exact hreporter
  | link port => cases port <;> exact ⟨hnumbering, hreporter, htimer, hretry⟩
  | cut port =>
    cases port with
    | s => exact ⟨hnumbering, hreporter, htimer, hretry⟩
    | c =>
      have hsame : (s.store.map (afterAbort s.cTransmission)).map recordSequence = s.store.map recordSequence := by
        rw [List.map_map]
        exact List.map_congr_left fun r _ => afterAbort_sequence _ r
      rw [cutLink, abortCTransmission_eq]
      refine ⟨numberingLaw_congr (s := s) rfl hsame hnumbering, ?_, htimer, hretry⟩
      rw [ReporterLaw, numberedCount_congr hsame]
      exact hreporter
  | sPort =>
    rw [startSTransmission_writes]
    exact ⟨hnumbering, hreporter, htimer, hretry⟩
  | address a => unfold takeAddress; split <;> exact ⟨hnumbering, hreporter, htimer, hretry⟩
  | mode m =>
    rw [changeMode_eq]
    exact ⟨hnumbering, hreporter, htimer, hretry⟩
  | chainReset =>
    exact ⟨numberingLaw_empty rfl, iff_of_true rfl rfl, nofun, htimeoutLow, htimeoutHigh, hlimitLow, hlimitHigh, Nat.zero_le _⟩
  | restart =>
    exact ⟨numberingLaw_empty rfl, iff_of_true rfl rfl, nofun, htimeoutLow, htimeoutHigh, hlimitLow, hlimitHigh, Nat.zero_le _⟩
  | acknowledge d numbered => exact deliveryLaw_acknowledge numbered ⟨hnumbering, hreporter, htimer, hretry⟩
  | delivery timeout limit timeoutRange limitRange =>
    exact ⟨hnumbering, hreporter, htimer, timeoutRange.1, timeoutRange.2, limitRange.1, limitRange.2, min_le_right _ _⟩
  | clearStall stalled =>
    refine ⟨hnumbering, iff_of_false nofun fun hnone => ?_, fun n hn => ⟨rfl, (htimer n hn).2⟩,
      htimeoutLow, htimeoutHigh, hlimitLow, hlimitHigh, Nat.zero_le _⟩
    have hidle := hreporter.mpr hnone
    rw [stalled] at hidle
    cases hidle
  | startTimer awaiting =>
    refine ⟨hnumbering, hreporter, fun n hn => ?_, hretry⟩
    obtain rfl := Option.some.inj hn
    exact ⟨awaiting, htimeoutLow, htimeoutHigh⟩
  | countTimer n runs more =>
    refine ⟨hnumbering, hreporter, fun k hk => ?_, hretry⟩
    obtain rfl := Option.some.inj hk
    obtain ⟨hawaiting, -, hlast⟩ := htimer n runs
    exact ⟨hawaiting, by omega, by omega⟩
  | retry n runs below =>
    exact ⟨hnumbering, hreporter, nofun, htimeoutLow, htimeoutHigh, hlimitLow, hlimitHigh, below⟩
  | stall n runs => exact ⟨hnumbering, iff_of_false nofun (hwaits n runs), nofun, hretry⟩
  | _ => exact ⟨hnumbering, hreporter, htimer, hretry⟩

/-- The engine is ready only where a record waits, and then its grant takes one. -/
theorem takeRecords_numbered_pos {rs : List Record} {resends unsents : Nat} {next : BitVec 16}
    (h : (∃ r ∈ rs, (recordSequence r).isSome) ∨ ((∃ r ∈ rs, r.delivery = .unsent) ∧ 0 < unsents)) :
    numberedCount (takeRecords resends unsents next rs).store ≠ 0 := by
  have hiff : ∀ store : List Record, numberedCount store ≠ 0 ↔ ∃ r ∈ store, (recordSequence r).isSome := by
    intro store
    rw [← Nat.pos_iff_ne_zero, numberedCount, List.countP_pos_iff]
  rw [hiff]
  induction rs generalizing resends unsents next with
  | nil => simp at h
  | cons r rs ih =>
    rw [takeRecords]
    split
    · rename_i n hsent
      exact ⟨r, List.mem_cons_self, by rw [recordSequence, hsent]; rfl⟩
    · rename_i n hresend
      split
      · exact ⟨_, List.mem_cons_self, rfl⟩
      · exact ⟨r, List.mem_cons_self, by rw [recordSequence, hresend]; rfl⟩
    · rename_i hunsent
      split
      · exact ⟨_, List.mem_cons_self, rfl⟩
      · rename_i hplace
        obtain ⟨x, hx, hsome⟩ := h.resolve_right fun h => hplace h.2
        rcases List.mem_cons.mp hx with rfl | hx
        · rw [recordSequence, hunsent] at hsome
          cases hsome
        · obtain ⟨y, hy, hysome⟩ := ih (resends := resends) (unsents := unsents) (next := next) (.inl ⟨x, hx, hsome⟩)
          exact ⟨y, List.mem_cons_of_mem _ hy, hysome⟩

theorem assemble_takes {s : State} (h : deliveryReady s = true) :
    numberedCount (assemble s.store s.nextSequence).store ≠ 0 := by
  simp only [deliveryReady, Bool.and_eq_true, List.any_eq_true] at h
  obtain ⟨-, r, hr, hawaits⟩ := h
  refine takeRecords_numbered_pos ?_
  by_cases hnumbered : ∃ r ∈ s.store, (recordSequence r).isSome
  · exact .inl hnumbered
  · refine .inr ⟨⟨r, hr, ?_⟩, ?_⟩
    · unfold awaitsSending at hawaits
      have hnone : ¬ (recordSequence r).isSome := fun hsome => hnumbered ⟨r, hr, hsome⟩
      unfold recordSequence at hnone
      split at hnone
      · assumption
      · exact absurd rfl hnone
      · exact absurd rfl hnone
    · have hnoResend : s.store.countP isResend = 0 := by
        refine List.countP_eq_zero.mpr fun x hx hresend => hnumbered ⟨x, hx, ?_⟩
        unfold isResend at hresend
        split at hresend
        · rename_i n hn
          rw [recordSequence, hn]
          rfl
        · cases hresend
      rw [hnoResend]
      decide

theorem deliveryLaw_grantDelivery (hready : deliveryReady s = true) (hs : DeliveryLaw s) : DeliveryLaw (grantDelivery s) := by
  obtain ⟨hnumbering, hreporter, htimer, hretry⟩ := hs
  obtain ⟨k, hk⟩ := numberingLaw_iff.mp hnumbering
  obtain ⟨j, k', hnumbered, -⟩ := assemble_numbered hk
  refine ⟨numberingLaw_of_numbered hnumbered, iff_of_false ?_ (assemble_takes hready), fun n hn => ?_, hretry⟩
  · unfold grantDelivery
    dsimp only
    split
    · exact nofun
    · assumption
  · obtain ⟨hawaiting, hrange⟩ := htimer n hn
    refine ⟨?_, hrange⟩
    unfold grantDelivery
    dsimp only
    rw [hawaiting]

theorem deliveryLaw_grantStep (hs : DeliveryLaw s) : DeliveryLaw (grantStep s) := by
  rcases grantStep_cases s with h | ⟨-, -, ⟨r, rest, -, h⟩ | ⟨f, rest, -, -, h⟩ | ⟨-, hready, h⟩⟩ <;> rw [h]
  · exact hs
  · exact hs
  · exact hs
  · exact deliveryLaw_grantDelivery hready hs

theorem deliveryLaw_powerOn (pins : Pins) (q : List Instr) : DeliveryLaw (State.powerOn pins q) :=
  ⟨numberingLaw_empty rfl, iff_of_true rfl rfl, nofun,
    by simp [RetryLaw, State.powerOn, Config.defaultAckTimeout, Config.defaultRetryLimit]⟩

/-- Settles O57: every act of the engine keeps its laws, and so does the grant to it. -/
theorem stepKeepsDeliveryLaw : Obligations.StepKeepsDeliveryLaw := fun _ _ hs hstep =>
  step_keeps (P := DeliveryLaw) (Q := DeliveryLaw) (fun _ _ hs => hs) deliveryLaw_powerOn (fun _ _ hs => hs)
    (fun _ _ _ h hs => h.deliveryLaw hs) (fun _ hs => deliveryLaw_grantStep hs) hs hstep

end Sys2Proof.Machine

/-! The laws of the binding table and of the two banks, act by act (R1 to R9, R24, R40, R79). -/

namespace Sys2Proof.Machine

set_option Elab.async false

open Sys2Proof.Safety

variable {c : Instr} {s t : State}

/-! ### Keys -/

/-- The key of an entry (R2). -/
def entryKey (e : Fin 256 × Binding) : BitVec 6 × BitVec 5 := (e.2.source, e.2.channel)

theorem entryKey_ne_iff {e f : Fin 256 × Binding} :
    entryKey e ≠ entryKey f ↔ ¬ (e.2.source = f.2.source ∧ e.2.channel = f.2.channel) := by
  rw [ne_eq, entryKey, entryKey, Prod.mk.injEq]

/-- The keys of a table differ (R2). -/
def DistinctKeys (table : Table 256 Binding) : Prop := (table.map entryKey).Pairwise (· ≠ ·)

theorem keyLaw_iff : KeyLaw s ↔ s.bindings.wf ∧ DistinctKeys s.bindings := by
  rw [KeyLaw, DistinctKeys, List.pairwise_map]
  simp only [entryKey_ne_iff]

/-- Rewriting an entry in its place leaves the keys, if it leaves the entry's own. -/
theorem map_put_of_lookup {β : Type} {n : Nat} {α : Type} (f : Fin n × α → β) {table : Table n α} (hwf : table.wf) {i : Fin n}
    {a b : α} (ha : table.lookup i = some a) (hf : f (i, b) = f (i, a)) : (table.put i b).map f = table.map f := by
  induction table with
  | nil => cases ha
  | cons e rest ih =>
    obtain ⟨j, x⟩ := e
    rw [Table.wf, List.map_cons, List.pairwise_cons] at hwf
    rw [Table.lookup] at ha
    rw [Table.put]
    by_cases hj : j = i
    · subst hj
      rw [if_pos rfl] at ha
      obtain rfl := Option.some.inj ha
      rw [if_neg (lt_irrefl _), if_pos rfl, List.map_cons, List.map_cons, hf]
    · rw [if_neg hj] at ha
      have hlt : j < i := hwf.1 i (List.mem_map_of_mem (f := Prod.fst) (Table.mem_of_lookup ha))
      rw [if_neg hlt.asymm, if_neg hj, List.map_cons, List.map_cons, ih hwf.2 ha]

theorem pairwise_put_of_free {n : Nat} {α : Type} {R : Fin n × α → Fin n × α → Prop} (hsymm : ∀ e f, R e f → R f e)
    {table : Table n α} (h : table.Pairwise R) {i : Fin n} {a : α} (hfree : table.lookup i = none)
    (hnew : ∀ e ∈ table, R (i, a) e) : (table.put i a).Pairwise R := by
  induction table with
  | nil => exact List.pairwise_singleton _ _
  | cons e rest ih =>
    obtain ⟨j, x⟩ := e
    obtain ⟨hhead, htail⟩ := List.pairwise_cons.mp h
    obtain ⟨hnewHead, hnewTail⟩ := List.forall_mem_cons.mp hnew
    rw [Table.lookup] at hfree
    have hj : j ≠ i := fun hj => by rw [if_pos hj] at hfree; cases hfree
    rw [if_neg hj] at hfree
    rw [Table.put]
    split
    · exact List.pairwise_cons.mpr ⟨hnew, h⟩
    · refine List.pairwise_cons.mpr ⟨fun f hf => ?_, ih htail hfree hnewTail⟩
      rcases Table.mem_put hf with rfl | hold
      · exact hsymm _ _ hnewHead
      · exact hhead f hold

theorem distinctKeys_mapContents {f : Binding → Binding} (hf : ∀ b, (f b).source = b.source ∧ (f b).channel = b.channel)
    {table : Table 256 Binding} (h : DistinctKeys table) : DistinctKeys (table.mapContents f) := by
  have hsame : (table.mapContents f).map entryKey = table.map entryKey := by
    rw [Table.mapContents, List.map_map]
    exact List.map_congr_left fun e _ => by rw [Function.comp_apply, entryKey, entryKey, (hf e.2).1, (hf e.2).2]
  rw [DistinctKeys, hsame]
  exact h

theorem keyLaw_mapContents {f : Binding → Binding} (hf : ∀ b, (f b).source = b.source ∧ (f b).channel = b.channel)
    (hs : KeyLaw s) (ht : t.bindings = s.bindings.mapContents f) : KeyLaw t := by
  rw [keyLaw_iff] at hs ⊢
  rw [ht]
  exact ⟨Table.wf_mapContents hs.1 f, distinctKeys_mapContents hf hs.2⟩

theorem keyLaw_congr (hs : KeyLaw s) (ht : t.bindings = s.bindings) : KeyLaw t := by
  rw [KeyLaw, ht]
  exact hs

theorem resettle_key (s : State) (b : Binding) : (resettle s b).source = b.source ∧ (resettle s b).channel = b.channel := by
  unfold resettle
  split <;> exact ⟨rfl, rfl⟩

/-- The bindings that a mode change leaves (R192). -/
theorem changeMode_bindings (m : Mode) (s : State) :
    (changeMode m s).bindings = s.bindings ∨ (changeMode m s).bindings = s.bindings.mapContents (unsettle .resumed) := by
  rw [changeMode_eq]
  dsimp only
  split
  · exact .inr rfl
  · exact .inl rfl

theorem cutLink_bindings (port : Port) (s : State) : (cutLink port s).bindings = s.bindings := by
  cases port with
  | s => rfl
  | c => rw [cutLink, abortCTransmission_eq]

theorem takeAddress_bindings (a : BitVec 6) (s : State) : (takeAddress a s).bindings = s.bindings := by
  unfold takeAddress
  split <;> rfl

/-- R1, R2, act by act. -/
theorem Act.keyLaw (h : Act c s t) (hs : KeyLaw s) : KeyLaw t := by
  cases h with
  | rebind i b b' old kept =>
    rw [keyLaw_iff] at hs ⊢
    refine ⟨Table.wf_put hs.1 i b', ?_⟩
    have hsame : entryKey (i, b') = entryKey (i, b) := by rw [entryKey, entryKey, kept.source, kept.channel]
    rw [DistinctKeys, setBinding_bindings, map_put_of_lookup entryKey hs.1 (Table.lookup_of_mem hs.1 old) hsame]
    exact hs.2
  | bind i b free key =>
    refine ⟨Table.wf_put hs.1 i b, pairwise_put_of_free (fun e f h h' => h ⟨h'.1.symm, h'.2.symm⟩) hs.2 free ?_⟩
    exact fun e he h => key e he ⟨h.1.symm, h.2.symm⟩
  | unbind i => exact ⟨Table.wf_remove hs.1 i, hs.2.sublist List.filter_sublist⟩
  | exchange => exact keyLaw_mapContents (resettle_key s) hs rfl
  | link port => exact keyLaw_congr hs (setLink_bindings _ _ _)
  | cut port => exact keyLaw_congr hs (cutLink_bindings _ _)
  | sPort => exact keyLaw_congr hs (startSTransmission_bindings _)
  | address a => exact keyLaw_congr hs (takeAddress_bindings _ _)
  | mode m =>
    rcases changeMode_bindings m s with h | h
    · exact keyLaw_congr hs h
    · exact keyLaw_mapContents (f := unsettle .resumed) (fun _ => ⟨rfl, rfl⟩) hs h
  | chainReset => exact keyLaw_mapContents (f := resetDynamic) (fun _ => ⟨rfl, rfl⟩) hs rfl
  | restart => exact keyLaw_mapContents (f := resetDynamic) (fun _ => ⟨rfl, rfl⟩) hs rfl
  | acknowledge d => exact keyLaw_congr hs (by rw [removeAcknowledged_eq])
  | _ => exact hs

/-! ### The entries' own fields -/

theorem one_le_limit_of_countsDown {b : Binding} (h : countsDown b = true) : 1 ≤ b.limit := by
  rw [countsDown, Bool.and_eq_true, bne_iff_ne] at h
  exact Nat.one_le_iff_ne_zero.mpr h.1

theorem unsettle_sound {reason : Reason} (hreason : reason ≠ .resync) {b : Binding} (hb : BindingSound b) :
    BindingSound (unsettle reason b) := by
  obtain ⟨h1, h2, h3, h4, h5, h6, -, -, h9, -⟩ := hb
  refine ⟨h1, h2, h3, h4, h5, h6, le_rfl, one_le_limit_of_countsDown, ?_, hreason⟩
  unfold unsettle
  dsimp only
  split
  · exact nofun
  · exact h9

theorem resetDynamic_sound {b : Binding} (hb : BindingSound b) : BindingSound (resetDynamic b) := by
  obtain ⟨h1, h2, h3, h4, -, h6, -, -, -, -⟩ := hb
  exact ⟨h1, h2, h3, h4, h3, h6, le_rfl, one_le_limit_of_countsDown, nofun, nofun⟩

theorem resettle_sound (s : State) {b : Binding} (hb : BindingSound b) : BindingSound (resettle s b) := by
  unfold resettle
  split
  · exact unsettle_sound (reason := .reprofiled) nofun hb
  · exact hb

theorem entryLaw_mapContents {f : Binding → Binding} (hf : ∀ b, BindingSound b → BindingSound (f b)) (hs : EntryLaw s)
    (ht : t.bindings = s.bindings.mapContents f) : EntryLaw t := by
  intro e he
  rw [ht] at he
  obtain ⟨e', he', rfl⟩ := List.mem_map.mp he
  exact hf _ (hs e' he')

theorem entryLaw_congr (hs : EntryLaw s) (ht : t.bindings = s.bindings) : EntryLaw t := by
  rw [EntryLaw, ht]
  exact hs

/-- R2, R4, R7, R9, R79, act by act. -/
theorem Act.entryLaw (h : Act c s t) (hs : EntryLaw s) : EntryLaw t := by
  cases h with
  | rebind i b b' old kept =>
    intro e he
    rcases Table.mem_put he with rfl | hold
    · exact kept.sound (hs _ old)
    · exact hs e hold
  | bind i b free key sound =>
    intro e he
    rcases Table.mem_put he with rfl | hold
    · exact sound
    · exact hs e hold
  | unbind i => exact fun e he => hs e (List.mem_of_mem_filter he)
  | exchange => exact entryLaw_mapContents (fun _ => resettle_sound s) hs rfl
  | link port => exact entryLaw_congr hs (setLink_bindings _ _ _)
  | cut port => exact entryLaw_congr hs (cutLink_bindings _ _)
  | sPort => exact entryLaw_congr hs (startSTransmission_bindings _)
  | address a => exact entryLaw_congr hs (takeAddress_bindings _ _)
  | mode m =>
    rcases changeMode_bindings m s with h | h
    · exact entryLaw_congr hs h
    · exact entryLaw_mapContents (fun _ => unsettle_sound (reason := .resumed) nofun) hs h
  | chainReset => exact entryLaw_mapContents (fun _ => resetDynamic_sound) hs rfl
  | restart => exact entryLaw_mapContents (fun _ => resetDynamic_sound) hs rfl
  | acknowledge d => exact entryLaw_congr hs (by rw [removeAcknowledged_eq])
  | _ => exact hs

/-- Settles O58: every act keeps the keys apart and the entries sound, and the grant writes no entry. -/
theorem stepKeepsBindingLaws : Obligations.StepKeepsBindingLaws := fun _ _ hs hstep =>
  step_keeps (P := fun s => KeyLaw s ∧ EntryLaw s) (Q := fun s => KeyLaw s ∧ EntryLaw s) (fun _ _ hs => hs)
    (fun _ _ => ⟨⟨.nil, .nil⟩, fun _ he => absurd he List.not_mem_nil⟩) (fun _ _ hs => hs)
    (fun _ _ _ h hs => ⟨h.keyLaw hs.1, h.entryLaw hs.2⟩)
    (fun s hs => ⟨keyLaw_congr hs.1 (grantStep_bindings s), entryLaw_congr hs.2 (grantStep_bindings s)⟩) hs hstep

/-! ### Profiles -/

/-- The laws of the banks and of the bindings' slots together: what the fields that they read make of them. -/
theorem profileLaws_congr (hs : BankLaw s ∧ ProfileLaw s) (hbindings : t.bindings = s.bindings)
    (hactive : t.activeBank = s.activeBank) (hshadow : t.shadowBank = s.shadowBank) (hsweep : t.sweep = s.sweep) :
    BankLaw t ∧ ProfileLaw t := by
  rw [BankLaw, ProfileLaw, hbindings, hactive, hshadow, hsweep]
  exact hs

theorem lookup_sound {bank : Bank} (hbank : ∀ e ∈ bank, ProfileSound e.2) {i : Fin 32} {p : Profile}
    (h : bank.lookup i = some p) : ProfileSound p := hbank _ (Table.mem_of_lookup h)

/-- A binding that a reset or a mode change unsettles still names its slot, and tracks within any profile. -/
theorem profileLaws_unsettled {f : Binding → Binding} (hprofile : ∀ b, (f b).profile = b.profile)
    (htrack : ∀ b, (f b).track = .unsettled) (hs : BankLaw s ∧ ProfileLaw s) (hbindings : t.bindings = s.bindings.mapContents f)
    (hactive : t.activeBank = s.activeBank) (hshadow : t.shadowBank = s.shadowBank) (hsweep : t.sweep.isSome → s.sweep.isSome) :
    BankLaw t ∧ ProfileLaw t := by
  refine ⟨by rw [BankLaw, hactive, hshadow]; exact hs.1, fun e he => ?_⟩
  rw [hbindings] at he
  obtain ⟨e', he', rfl⟩ := List.mem_map.mp he
  obtain ⟨hslot, hsweeping⟩ := hs.2 e' he'
  obtain ⟨p, hp, -⟩ := (Option.any_eq_true _ _).mp hslot
  dsimp only
  rw [hprofile, hactive, hshadow, hp]
  exact ⟨by rw [Option.any_some, tracksWithin, htrack], fun h => hsweeping (hsweep h)⟩

theorem profileLaws_exchange (hruns : s.sweep.isSome) (hs : BankLaw s ∧ ProfileLaw s) :
    BankLaw (exchangeBanks s) ∧ ProfileLaw (exchangeBanks s) := by
  obtain ⟨⟨hactiveWf, hshadowWf, hactive, hshadow⟩, hprofiles⟩ := hs
  refine ⟨⟨hshadowWf, hactiveWf, hshadow, hactive⟩, fun e he => ⟨?_, nofun⟩⟩
  obtain ⟨e', he', rfl⟩ := List.mem_map.mp he
  obtain ⟨hslot, hsweeping⟩ := hprofiles e' he'
  obtain ⟨p, hp, hwithin⟩ := (Option.any_eq_true _ _).mp hslot
  obtain ⟨q, hq⟩ := Option.isSome_iff_exists.mp (hsweeping hruns)
  have hprofile : (resettle s e'.2).profile = e'.2.profile := by unfold resettle; split <;> rfl
  dsimp only [exchangeBanks]
  rw [hprofile, hq, Option.any_some]
  unfold resettle
  split
  · rfl
  · rename_i hsame
    rw [ladderChanged, hp, hq, Bool.not_eq_true, bne_eq_false_iff_eq, Option.map_some, Option.map_some, Option.some.injEq,
      ladder, ladder, Prod.mk.injEq, Prod.mk.injEq] at hsame
    rw [tracksWithin, ← hsame.1, ← hsame.2.2]
    exact hwithin

/-- R3, R6, R24, R40, act by act. -/
theorem Act.profileLaws (h : Act c s t) (hs : BankLaw s ∧ ProfileLaw s) : BankLaw t ∧ ProfileLaw t := by
  have ⟨hbank, hprofiles⟩ := hs
  cases h with
  | rebind i b b' old kept =>
    refine ⟨hbank, fun e he => ?_⟩
    rcases Table.mem_put he with rfl | hold
    · obtain ⟨hslot, hsweeping⟩ := hprofiles _ old
      obtain ⟨p, hp, hwithin⟩ := (Option.any_eq_true _ _).mp hslot
      obtain ⟨p', hp', hwithin'⟩ := kept.fits p hp (lookup_sound hbank.2.2.1 hp) hwithin
      refine ⟨(Option.any_eq_true _ _).mpr ⟨p', hp', hwithin'⟩, fun hsweep => ?_⟩
      rcases kept.slot with hsame | hquiet
      · rw [hsame]
        exact hsweeping hsweep
      · rw [setBinding_sweep, hquiet] at hsweep
        cases hsweep
    · exact hprofiles e hold
  | bind i b free key sound track slot quiet =>
    refine ⟨hbank, fun e he => ?_⟩
    rcases Table.mem_put he with rfl | hold
    · obtain ⟨p, hp⟩ := Option.isSome_iff_exists.mp slot
      refine ⟨(Option.any_eq_true _ _).mpr ⟨p, hp, by rw [tracksWithin, track]⟩, fun hsweep => ?_⟩
      rw [setBinding_sweep, quiet] at hsweep
      cases hsweep
    · exact hprofiles e hold
  | unbind i => exact ⟨hbank, fun e he => hprofiles e (List.mem_of_mem_filter he)⟩
  | shadow bank quiet sound =>
    obtain ⟨hwf, hsound⟩ := sound ⟨hbank.1, hbank.2.2.1⟩ ⟨hbank.2.1, hbank.2.2.2⟩
    refine ⟨⟨hbank.1, hwf, hbank.2.2.1, hsound⟩, fun e he => ⟨(hprofiles e he).1, fun hsweep => ?_⟩⟩
    dsimp only at hsweep
    rw [quiet] at hsweep
    cases hsweep
  | beginSweep sweep slots => exact ⟨hbank, fun e he => ⟨(hprofiles e he).1, fun _ => slots e he⟩⟩
  | exchange ends runs => exact profileLaws_exchange runs hs
  | link port =>
    exact profileLaws_congr hs (setLink_bindings _ _ _) (setLink_activeBank _ _ _) (setLink_shadowBank _ _ _) (setLink_sweep _ _ _)
  | cut port =>
    cases port with
    | s => exact hs
    | c => rw [cutLink, abortCTransmission_eq]; exact hs
  | sPort => rw [startSTransmission_writes]; exact hs
  | address a => unfold takeAddress; split <;> exact hs
  | mode m =>
    have hbanks : (changeMode m s).activeBank = s.activeBank ∧ (changeMode m s).shadowBank = s.shadowBank
        ∧ (changeMode m s).sweep = s.sweep := by rw [changeMode_eq]; exact ⟨rfl, rfl, rfl⟩
    obtain ⟨hactive, hshadow, hsweep⟩ := hbanks
    rcases changeMode_bindings m s with h | h
    · exact profileLaws_congr hs h hactive hshadow hsweep
    · exact profileLaws_unsettled (unsettle_profile · .resumed) (unsettle_track · .resumed) hs h hactive hshadow fun h => hsweep ▸ h
  | chainReset => exact profileLaws_unsettled resetDynamic_profile resetDynamic_track hs rfl rfl rfl nofun
  | restart => exact profileLaws_unsettled resetDynamic_profile resetDynamic_track hs rfl rfl rfl nofun
  | acknowledge d => rw [removeAcknowledged_eq]; exact hs
  | _ => exact hs

/-- Settles O59: every act keeps the banks and the bindings' slots, and the grant writes neither. -/
theorem stepKeepsProfileLaws : Obligations.StepKeepsProfileLaws := fun _ _ hs hstep =>
  step_keeps (P := fun s => BankLaw s ∧ ProfileLaw s) (Q := fun s => BankLaw s ∧ ProfileLaw s) (fun _ _ hs => hs)
    (fun _ _ => ⟨⟨.nil, .nil, nofun, nofun⟩, fun _ he => absurd he List.not_mem_nil⟩) (fun _ _ hs => hs)
    (fun _ _ _ h hs => h.profileLaws hs)
    (fun s hs => profileLaws_congr hs (grantStep_bindings s) (grantStep_activeBank s) (grantStep_shadowBank s) (grantStep_sweep s))
    hs hstep

/-! ### The whole machine -/

/-- Settles O60. -/
theorem resetMeetsEveryLaw : Obligations.ResetMeetsEveryLaw := by
  refine ⟨addressLaw_powerOn _ _, ?held, capacityLaw_powerOn _ _, ?cache, portLaw_powerOn _ _, deliveryLaw_powerOn _ _,
    ?keys, ?entries, ?banks, ?profiles⟩
  case held => exact fun hpins => absurd reset_pins hpins
  case cache => exact .nil
  case keys => exact ⟨.nil, .nil⟩
  case entries => exact fun _ he => absurd he List.not_mem_nil
  case banks => exact ⟨.nil, .nil, nofun, nofun⟩
  case profiles => exact fun _ he => absurd he List.not_mem_nil

end Sys2Proof.Machine

/-! The grant of the C transmitter (R113 to R115, R159, R160), the transmissions (R117, R144, R156), and the rules of the whole
machine. An assembly is read off twice: record by record, and as the list of the records taken. -/

namespace Sys2Proof.Machine

set_option Elab.async false

open Sys2Proof.Safety

variable {s t : State}

/-! ### An assembly, record by record -/

/-- Whether a record is UNSENT. -/
def isUnsent (r : Record) : Bool := decide (r.delivery = .unsent)

/-- A record after an assembly with the given places, by the records in front of it (R114, R115). -/
def assembledAfter (resends unsents : Nat) (next : BitVec 16) (front : List Record) (r : Record) : Record :=
  match r.delivery with
  | .sent _ => r
  | .resend n => if (front.filter isResend).length < resends then { r with delivery := .sent n } else r
  | .unsent =>
    if (front.filter isUnsent).length < unsents then
      { r with delivery := .sent (next + BitVec.ofNat 16 (front.filter isUnsent).length) }
    else r

section

variable (resends unsents : Nat) (next : BitVec 16) (front : List Record) {r : Record} (x : Record)

theorem assembledAfter_cons_sent {n : BitVec 16} (hr : r.delivery = .sent n) :
    assembledAfter resends unsents next (r :: front) x = assembledAfter resends unsents next front x := by
  simp [assembledAfter, isResend, isUnsent, hr]

/-- A RESEND record in front takes one of the places for RESEND records, if there is one. -/
theorem assembledAfter_cons_resend {n : BitVec 16} (hr : r.delivery = .resend n) :
    assembledAfter resends unsents next (r :: front) x = assembledAfter (resends - 1) unsents next front x := by
  have hplace : (front.filter isResend).length + 1 < resends ↔ (front.filter isResend).length < resends - 1 := by omega
  simp [assembledAfter, isResend, isUnsent, hr, hplace]

/-- An UNSENT record in front takes one of the places for UNSENT records, if there is one, with the next number. -/
theorem assembledAfter_cons_unsent (hr : r.delivery = .unsent) :
    assembledAfter resends unsents next (r :: front) x = assembledAfter resends (unsents - 1) (next + 1) front x := by
  have hplace : (front.filter isUnsent).length + 1 < unsents ↔ (front.filter isUnsent).length < unsents - 1 := by omega
  have hnumber : ∀ k : Nat, next + BitVec.ofNat 16 (k + 1) = next + 1 + BitVec.ofNat 16 k := by
    intro k
    rw [ofNat_succ_word]
    ring
  have hunsents : (r :: front).filter isUnsent = r :: front.filter isUnsent :=
    List.filter_cons_of_pos (by simp [isUnsent, hr])
  have hresends : (r :: front).filter isResend = front.filter isResend := List.filter_cons_of_neg (by simp [isResend, hr])
  simp only [assembledAfter, hunsents, hresends, List.length_cons, hplace, hnumber]

theorem assembledAfter_no_unsents (next' : BitVec 16) :
    assembledAfter resends 0 next front x = assembledAfter resends 0 next' front x := by
  simp [assembledAfter]

end

theorem takeRecords_store (resends unsents : Nat) (next : BitVec 16) (rs : List Record) :
    (takeRecords resends unsents next rs).store
      = rs.mapIdx fun k r => assembledAfter resends unsents next (rs.take k) r := by
  induction rs generalizing resends unsents next with
  | nil => rfl
  | cons r rest ih =>
    rw [List.mapIdx_cons, takeRecords]
    simp only [List.take_zero, List.take_succ_cons]
    cases hr : r.delivery with
    | sent n =>
      simp only [assembledAfter_cons_sent _ _ _ _ _ hr, ← ih]
      simp [Assembly.keep, assembledAfter, hr]
    | resend n =>
      simp only [assembledAfter_cons_resend _ _ _ _ _ hr, ← ih]
      split
      · simp [Assembly.take, assembledAfter, *]
      · rename_i hplace
        obtain rfl : resends = 0 := Nat.eq_zero_of_not_pos hplace
        simp [Assembly.keep, assembledAfter, hr]
    | unsent =>
      simp only [assembledAfter_cons_unsent _ _ _ _ _ hr]
      split
      · simp [Assembly.take, assembledAfter, *]
      · rename_i hplace
        obtain rfl : unsents = 0 := Nat.eq_zero_of_not_pos hplace
        simp only [Nat.zero_sub, assembledAfter_no_unsents resends (next + 1) _ _ next, ← ih]
        simp [Assembly.keep, assembledAfter, hr]

/-- The next sequence number advances by the UNSENT records taken. -/
theorem takeRecords_nextSequence (resends unsents : Nat) (next : BitVec 16) (rs : List Record) :
    (takeRecords resends unsents next rs).nextSequence
      = next + BitVec.ofNat 16 ((rs.filter isUnsent).take unsents).length := by
  induction rs generalizing resends unsents next with
  | nil => simp [takeRecords]
  | cons r rest ih =>
    rw [takeRecords]
    cases hr : r.delivery with
    | sent n => simp [Assembly.keep, ih, isUnsent, hr]
    | resend n =>
      dsimp only
      split <;> simp [Assembly.keep, Assembly.take, ih, isUnsent, hr]
    | unsent =>
      dsimp only
      rw [List.filter_cons_of_pos (by simp [isUnsent, hr])]
      split
      · rename_i hplace
        obtain ⟨u, rfl⟩ := Nat.exists_eq_succ_of_ne_zero hplace.ne'
        simp only [Assembly.take, ih, Nat.succ_sub_one, List.take_succ_cons, List.length_cons, ofNat_succ_word]
        ring
      · rename_i hplace
        obtain rfl : unsents = 0 := Nat.eq_zero_of_not_pos hplace
        simp [Assembly.keep, ih]

/-! ### The records that an assembly takes -/

/-- A RESEND record taken: SENT with the number it has. -/
def resent (r : Record) : Record := { r with delivery := .sent ((recordSequence r).getD 0) }

/-- An UNSENT record taken, by its place among the UNSENT ones: SENT with a number of its own. -/
def numberedFrom (next : BitVec 16) (e : Record × Nat) : Record :=
  { e.1 with delivery := .sent (next + BitVec.ofNat 16 e.2) }

theorem isUnsent_of {r : Record} (h : r.delivery = .unsent) : isUnsent r = true := decide_eq_true h

theorem isResend_of {r : Record} {n : BitVec 16} (h : r.delivery = .resend n) : isResend r = true := by rw [isResend, h]

/-- Of records that carry numbers an assembly takes the RESEND ones while it has places for them. -/
theorem takeRecords_taken_append {rs : List Record} (hrs : ∀ r ∈ rs, (recordSequence r).isSome) (rest : List Record)
    (resends unsents : Nat) (next : BitVec 16) :
    ∃ resends', (takeRecords resends unsents next (rs ++ rest)).taken
      = ((rs.filter isResend).take resends).map resent ++ (takeRecords resends' unsents next rest).taken := by
  induction rs generalizing resends with
  | nil => exact ⟨resends, by simp⟩
  | cons r rs ih =>
    obtain ⟨hr, hrest⟩ := List.forall_mem_cons.mp hrs
    rw [List.cons_append, takeRecords]
    cases hdelivery : r.delivery with
    | sent n =>
      obtain ⟨resends', htaken⟩ := ih hrest resends
      exact ⟨resends', by simp [Assembly.keep, htaken, isResend, hdelivery]⟩
    | resend n =>
      rw [List.filter_cons_of_pos (isResend_of hdelivery)]
      dsimp only
      split
      · rename_i hplace
        obtain ⟨k, rfl⟩ := Nat.exists_eq_succ_of_ne_zero hplace.ne'
        obtain ⟨resends', htaken⟩ := ih hrest k
        exact ⟨resends', by simp [Assembly.take, htaken, resent, recordSequence, hdelivery]⟩
      · rename_i hplace
        obtain rfl : resends = 0 := Nat.eq_zero_of_not_pos hplace
        obtain ⟨resends', htaken⟩ := ih hrest 0
        exact ⟨resends', by simpa [Assembly.keep] using htaken⟩
    | unsent =>
      rw [recordSequence, hdelivery] at hr
      cases hr

theorem takeRecords_taken_unsent {rs : List Record} (hrs : ∀ r ∈ rs, r.delivery = .unsent) (resends unsents : Nat)
    (next : BitVec 16) :
    (takeRecords resends unsents next rs).taken = (rs.take unsents).zipIdx.map (numberedFrom next) := by
  induction rs generalizing unsents next with
  | nil => simp [takeRecords]
  | cons r rs ih =>
    obtain ⟨hr, hrest⟩ := List.forall_mem_cons.mp hrs
    rw [takeRecords, hr]
    dsimp only
    split
    · rename_i hplace
      obtain ⟨u, rfl⟩ := Nat.exists_eq_succ_of_ne_zero hplace.ne'
      have hshift : ∀ e : Record × Nat, numberedFrom next (e.1, e.2 + 1) = numberedFrom (next + 1) e := by
        intro e
        rw [numberedFrom, numberedFrom, ofNat_succ_word]
        congr 2
        ring
      rw [Assembly.take, ih hrest, List.take_succ_cons, List.zipIdx_cons, List.zipIdx_succ, List.map_cons, List.map_map]
      refine congrArg₂ List.cons ?_ (List.map_congr_left fun e _ => (hshift e).symm)
      simp [numberedFrom]
    · rename_i hplace
      obtain rfl : unsents = 0 := Nat.eq_zero_of_not_pos hplace
      simp [Assembly.keep, ih hrest]

theorem recordSequence_eq_none_iff {r : Record} : recordSequence r = none ↔ r.delivery = .unsent := by
  unfold recordSequence
  cases r.delivery <;> simp

/-- Numbered records stand in front of the others (R92). -/
theorem store_split (h : NumberingLaw s) :
    ∃ numbered rest, s.store = numbered ++ rest ∧ (∀ r ∈ numbered, (recordSequence r).isSome)
      ∧ ∀ r ∈ rest, r.delivery = .unsent := by
  obtain ⟨k, hk⟩ := numberingLaw_iff.mp h
  obtain ⟨numbered, rest, hstore, hnumbered, hrest⟩ := List.map_eq_append_iff.mp hk
  refine ⟨numbered, rest, hstore, fun r hr => ?_, fun r hr => ?_⟩
  · obtain ⟨n, -, hn⟩ := List.mem_map.mp (hnumbered ▸ List.mem_map_of_mem (f := recordSequence) hr)
    rw [← hn]
    rfl
  · exact recordSequence_eq_none_iff.mp (List.eq_of_mem_replicate (hrest ▸ List.mem_map_of_mem (f := recordSequence) hr))

/-- R114: where numbered records stand in front, an assembly takes the RESEND ones and then the UNSENT ones. -/
theorem takeRecords_taken (h : NumberingLaw s) (resends unsents : Nat) (next : BitVec 16) :
    (takeRecords resends unsents next s.store).taken
      = ((s.store.filter isResend).take resends).map resent
        ++ ((s.store.filter isUnsent).take unsents).zipIdx.map (numberedFrom next) := by
  obtain ⟨numbered, rest, hstore, hnumbered, hrest⟩ := store_split h
  obtain ⟨resends', htaken⟩ := takeRecords_taken_append hnumbered rest resends unsents next
  have hresends : s.store.filter isResend = numbered.filter isResend := by
    have hnil : rest.filter isResend = [] :=
      List.filter_eq_nil_iff.mpr fun r hr => by rw [isResend, hrest r hr]; exact nofun
    rw [hstore, List.filter_append, hnil, List.append_nil]
  have hunsents : s.store.filter isUnsent = rest := by
    have hnil : numbered.filter isUnsent = [] := by
      refine List.filter_eq_nil_iff.mpr fun r hr hunsent => ?_
      have hsome := hnumbered r hr
      rw [recordSequence, of_decide_eq_true hunsent] at hsome
      cases hsome
    rw [hstore, List.filter_append, hnil, List.nil_append, List.filter_eq_self]
    exact fun r hr => decide_eq_true (hrest r hr)
  rw [hresends, hunsents, hstore, htaken, takeRecords_taken_unsent hrest]

/-! ### The grant -/

theorem awaitsSending_iff {r : Record} : awaitsSending r = true ↔ r.delivery = .unsent ∨ ∃ n, r.delivery = .resend n := by
  unfold awaitsSending
  cases r.delivery <;> simp

theorem deliveryReady_iff :
    deliveryReady s = true ↔ s.mode ≠ .unaddressed ∧ s.reporter ≠ .stalled
      ∧ ∃ r ∈ s.store, r.delivery = .unsent ∨ ∃ n, r.delivery = .resend n := by
  simp only [deliveryReady, Bool.and_eq_true, bne_iff_ne, List.any_eq_true, awaitsSending_iff, and_assoc]

theorem exec_cPortGrant (hrunning : s.pins = runningPins) : exec .cPortGrant s = .next (grantStep s) := by
  have hgrant : exec .cPortGrant s = .next (grantStep (grantStep s)) := whenRunning_running _ hrunning
  rw [hgrant, grantStep_grantStep]

theorem grantStep_of_not_due (h : ¬ isUp s.cLink ∨ s.cTransmission ≠ none) : grantStep s = s :=
  grantStep_of_busy (h.imp_left fun hdown n a hlink => hdown (isUp_iff.mpr ⟨n, a, hlink⟩))

theorem grantStep_of_due (hup : isUp s.cLink) (hidle : s.cTransmission = none) : grantStep s = grantChoice s := by
  obtain ⟨n, a, hlink⟩ := isUp_iff.mp hup
  exact grantStep_of_idle hlink hidle

theorem grantChoice_response {r : Response} {rest : List Response} (h : s.responses = r :: rest) :
    grantChoice s =
      { s with responses := rest, cTransmission := some (.response (responseFrame s.address r)), forwardCount := 0 } := by
  rw [grantChoice, h]

theorem grantChoice_forward {f : Frame} {rest : List Frame} (hresponses : s.responses = []) (hforward : s.forwardQueue = f :: rest)
    (h : deliveryReady s = false ∨ s.forwardCount ≠ 3) :
    grantChoice s =
      { s with
        forwardQueue := rest, cTransmission := some (.forwarded f), forwardCount := min 3 (s.forwardCount + 1) } := by
  have hturn : ¬ (deliveryReady s && s.forwardCount == Config.maxForwardCount) = true := by
    rw [Bool.and_eq_true, beq_iff_eq]
    rintro ⟨hready, hthree⟩
    exact h.elim (fun h => Bool.eq_false_iff.mp h hready) fun h => h hthree
  rw [grantChoice, hresponses]
  dsimp only
  rw [if_neg hturn, hforward]

theorem grantChoice_delivery (hresponses : s.responses = []) (hready : deliveryReady s = true)
    (h : s.forwardCount = 3 ∨ s.forwardQueue = []) : grantChoice s = grantDelivery s := by
  rw [grantChoice, hresponses]
  dsimp only
  by_cases hthree : s.forwardCount = 3
  · rw [hready, hthree]
    rfl
  · have hturn : ¬ (deliveryReady s && s.forwardCount == Config.maxForwardCount) = true := by
      rw [Bool.and_eq_true, beq_iff_eq]
      exact fun h => hthree h.2
    rw [if_neg hturn, h.resolve_left hthree]
    dsimp only
    rw [if_pos hready]

/-- No command leaves an idle transmitter of the UP C port with something to send (R159). -/
theorem exec_settles {c : Instr} (hrunning : s.pins = runningPins) (hexec : exec c s = .next t) (hup : isUp t.cLink)
    (hidle : t.cTransmission = none) : t.responses = [] ∧ t.forwardQueue = [] ∧ deliveryReady t = false := by
  by_cases hpower : ∃ p, c = .powerOn p
  · obtain ⟨p, rfl⟩ := hpower
    cases hexec
    cases hup
  · obtain ⟨u, hu⟩ := exec_running (c := c) hrunning fun p hp => hpower ⟨p, hp⟩
    cases hexec.symm.trans hu
    rw [grantStep_cLink] at hup
    obtain ⟨n, a, hlink⟩ := isUp_iff.mp hup
    obtain ⟨hresponses, hforward, hready, hsame⟩ := grantStep_settles hlink hidle
    rw [hsame]
    exact ⟨hresponses, hforward, hready⟩

/-- Settles O24, by the order in which the scheduler looks at its sources. -/
theorem grantOrder : Obligations.GrantOrder := by
  refine ⟨fun s hrunning => exec_cPortGrant hrunning, fun s h => grantStep_of_not_due h, fun s hup hidle => ?choice,
    fun c s t hrunning hexec hup hidle => ?settles⟩
  case choice =>
    rw [grantStep_of_due hup hidle]
    refine ⟨fun r rest h => grantChoice_response h, fun f rest hresponses hforward h => ?forward,
      fun hresponses hready h => ?delivery, fun hresponses hforward hready => ?nothing⟩
    case forward =>
      exact grantChoice_forward hresponses hforward (h.imp_left fun hnot => Bool.eq_false_iff.mpr (mt deliveryReady_iff.mp hnot))
    case delivery =>
      rw [grantChoice_delivery hresponses (deliveryReady_iff.mpr hready) h]
      exact ⟨⟨_, _, rfl⟩, rfl, rfl⟩
    case nothing =>
      rw [← grantStep_of_due hup hidle]
      exact grantStep_of_nothing hresponses hforward (Bool.eq_false_iff.mpr (mt deliveryReady_iff.mp hready))
  case settles =>
    obtain ⟨hresponses, hforward, hready⟩ := exec_settles hrunning hexec hup hidle
    exact ⟨hresponses, hforward, mt deliveryReady_iff.mpr (Bool.eq_false_iff.mp hready)⟩

/-- Settles O25: the grant goes to delivery, and its assembly is read off record by record and as the list of those taken. -/
theorem grantAssemblesEventFrame : Obligations.GrantAssemblesEventFrame := by
  intro s hreceives hidle hresponses hturn hmode hreporter hwaits hnumbering
  have hready : deliveryReady s = true := deliveryReady_iff.mpr ⟨hmode, hreporter, hwaits⟩
  have htaken := takeRecords_taken hnumbering 8 (8 - (s.store.filter isResend).length) s.nextSequence
  refine ⟨?grant, ?count⟩
  case grant =>
    rw [exec_cPortGrant hreceives.1, grantStep_of_due hreceives.2 hidle, grantChoice_delivery hresponses hready hturn.symm,
      grantDelivery, assemble, List.countP_eq_length_filter, htaken, takeRecords_store, takeRecords_nextSequence]
    congr 2
    cases s.reporter <;> rfl
  case count =>
    obtain ⟨r, hr, hwaiting⟩ := hwaits
    have hsome : 1 ≤ (s.store.filter isResend).length + (s.store.filter isUnsent).length := by
      rcases hwaiting with hunsent | ⟨n, hresend⟩
      · have := List.length_pos_of_mem (List.mem_filter.mpr ⟨hr, isUnsent_of hunsent⟩)
        omega
      · have := List.length_pos_of_mem (List.mem_filter.mpr ⟨hr, isResend_of hresend⟩)
        omega
    simp only [List.length_append, List.length_map, List.length_zipIdx, List.length_take]
    unfold isUnsent at hsome
    omega

end Sys2Proof.Machine

/-! The queue of waiting commands is read and written by no command (notes/assumptions/1). Two states that differ in it alone
are twins; every operation takes twins to twins. The operations of classification read neither the forward queue nor the C
transmission either, and are stated so that those may differ too. -/

namespace Sys2Proof.Machine

set_option Elab.async false

open Sys2Proof.Safety

/-- The second state is the first with other waiting commands, forward queue and C transmission. -/
def Apart (q : List Instr) (fq : List Frame) (ct : Option CTransmission) (s t : State) : Prop :=
  t = { s with pending := q, forwardQueue := fq, cTransmission := ct }

/-- The second state is the first with other waiting commands. -/
def Twin (q : List Instr) (s t : State) : Prop := t = { s with pending := q }

variable {q : List Instr} {fq : List Frame} {ct : Option CTransmission} {s t : State}

/-! ### Flags, records and classification -/

theorem offerNotice_apart (f : Flag) (h : Apart q fq ct s t) : Apart q fq ct (offerNotice f s) (offerNotice f t) := by
  subst h
  unfold offerNotice
  dsimp only
  split <;> exact rfl

theorem raiseFlag_apart (f : Flag) (h : Apart q fq ct s t) : Apart q fq ct (raiseFlag f s) (raiseFlag f t) := by
  subst h
  unfold raiseFlag
  dsimp only
  split
  · exact rfl
  · split
    · exact offerNotice_apart f rfl
    · exact rfl

theorem failedInsertion_apart (i : Fin 256) (h : Apart q fq ct s t) :
    Apart q fq ct (failedInsertion i s) (failedInsertion i t) := by
  subst h
  unfold failedInsertion
  dsimp only
  split <;> exact raiseFlag_apart _ rfl

theorem offerRecord_apart (body : Body) (h : Apart q fq ct s t) :
    Apart q fq ct (offerRecord body s) (offerRecord body t) := by
  subst h
  have hmerge : ∀ i zone value, mergeIntoStore i zone value { s with pending := q, forwardQueue := fq, cTransmission := ct }
      = mergeIntoStore i zone value s := fun _ _ _ => rfl
  unfold offerRecord
  simp only [hmerge]
  split
  · exact rfl
  · split
    · split
      · exact rfl
      · exact failedInsertion_apart _ rfl
    · exact failedInsertion_apart _ rfl
    · exact failedInsertion_apart _ rfl
    · exact offerNotice_apart _ rfl

theorem classifyBound_apart (i : Fin 256) (b : Binding) (p : Profile) (value : Word) (h : Apart q fq ct s t) :
    Apart q fq ct (classifyBound i b p value s).1 (classifyBound i b p value t).1 := by
  subst h
  rw [classifyBound_fst, classifyBound_fst]
  unfold offerIfSome
  split
  · exact offerRecord_apart _ rfl
  · exact rfl

/-- A classified pair does the same to apart states, and is kept in both or in neither. -/
theorem classifyPair_apart (source : BitVec 6) (pair : Pair) (h : Apart q fq ct s t) :
    Apart q fq ct (classifyPair source pair s).1 (classifyPair source pair t).1
      ∧ (classifyPair source pair t).2 = (classifyPair source pair s).2 := by
  subst h
  have hkey : findKey source pair.channel { s with pending := q, forwardQueue := fq, cTransmission := ct }
      = findKey source pair.channel s := rfl
  unfold classifyPair
  rw [hkey]
  split
  · exact ⟨rfl, rfl⟩
  · dsimp only
    split
    · exact ⟨rfl, rfl⟩
    · exact ⟨classifyBound_apart _ _ _ _ rfl, rfl⟩

theorem classifyPairs_apart (source : BitVec 6) (pairs : List Pair) (h : Apart q fq ct s t) :
    Apart q fq ct (classifyPairs source pairs s).1 (classifyPairs source pairs t).1
      ∧ (classifyPairs source pairs t).2 = (classifyPairs source pairs s).2 := by
  induction pairs generalizing s t with
  | nil => exact ⟨h, rfl⟩
  | cons pair rest ih =>
    obtain ⟨hfirst, hkept⟩ := classifyPair_apart source pair h
    obtain ⟨hothers, hrest⟩ := ih hfirst
    exact ⟨hothers, by rw [classifyPairs, classifyPairs, hkept, hrest]⟩

/-- What classification leaves of the fields that it does not read. -/
theorem Apart.twin {u v : State} (h : Apart q s.forwardQueue s.cTransmission u v) (hforward : u.forwardQueue = s.forwardQueue)
    (htransmission : u.cTransmission = s.cTransmission) : Twin q u v := by
  rw [Apart, ← hforward, ← htransmission] at h
  exact h

theorem Twin.apart (h : Twin q s t) : Apart q s.forwardQueue s.cTransmission s t := h

theorem raiseFlag_twin (f : Flag) (h : Twin q s t) : Twin q (raiseFlag f s) (raiseFlag f t) :=
  (raiseFlag_apart f h.apart).twin (raiseFlag_forwardQueue _ _) (raiseFlag_cTransmission _ _)

theorem offerRecord_twin (body : Body) (h : Twin q s t) : Twin q (offerRecord body s) (offerRecord body t) :=
  (offerRecord_apart body h.apart).twin (offerRecord_forwardQueue _ _) (offerRecord_cTransmission _ _)

theorem classifyPair_queues (source : BitVec 6) (pair : Pair) (s : State) :
    (classifyPair source pair s).1.forwardQueue = s.forwardQueue
      ∧ (classifyPair source pair s).1.cTransmission = s.cTransmission := by
  unfold classifyPair
  split
  · exact ⟨rfl, rfl⟩
  · split
    · exact ⟨rfl, rfl⟩
    · rw [classifyBound_fst]
      unfold offerIfSome
      split <;> simp

theorem classifyPairs_queues (source : BitVec 6) (pairs : List Pair) (s : State) :
    (classifyPairs source pairs s).1.forwardQueue = s.forwardQueue
      ∧ (classifyPairs source pairs s).1.cTransmission = s.cTransmission := by
  induction pairs generalizing s with
  | nil => exact ⟨rfl, rfl⟩
  | cons pair rest ih =>
    obtain ⟨hforward, htransmission⟩ := classifyPair_queues source pair s
    exact ⟨(ih _).1.trans hforward, (ih _).2.trans htransmission⟩

theorem classifyPairs_twin (source : BitVec 6) (pairs : List Pair) (h : Twin q s t) :
    Twin q (classifyPairs source pairs s).1 (classifyPairs source pairs t).1
      ∧ (classifyPairs source pairs t).2 = (classifyPairs source pairs s).2 := by
  obtain ⟨hapart, hkept⟩ := classifyPairs_apart source pairs h.apart
  obtain ⟨hforward, htransmission⟩ := classifyPairs_queues source pairs s
  exact ⟨hapart.twin hforward htransmission, hkept⟩

/-! ### Queues and links -/

theorem placeForward_twin (f : Frame) (h : Twin q s t) : Twin q (placeForward f s) (placeForward f t) := by
  subst h
  unfold placeForward
  dsimp only
  split
  · exact rfl
  · exact raiseFlag_twin _ rfl

theorem startSTransmission_twin (h : Twin q s t) : Twin q (startSTransmission s) (startSTransmission t) := by
  subst h
  unfold startSTransmission
  dsimp only
  split <;> exact rfl

theorem placeReturn_twin (f : Frame) (h : Twin q s t) : Twin q (placeReturn f s) (placeReturn f t) := by
  subst h
  unfold placeReturn
  dsimp only
  split
  · exact startSTransmission_twin rfl
  · exact raiseFlag_twin _ rfl

theorem linkOf_twin (port : Port) (h : Twin q s t) : linkOf port t = linkOf port s := by
  subst h
  cases port <;> rfl

theorem setLink_twin (port : Port) (l : Link) (h : Twin q s t) : Twin q (setLink port l s) (setLink port l t) := by
  subst h
  cases port <;> exact rfl

theorem linkUp_twin (port : Port) (h : Twin q s t) : Twin q (linkUp port s) (linkUp port t) := by
  subst h
  cases port
  · exact startSTransmission_twin rfl
  · exact rfl

theorem cutLink_twin (port : Port) (h : Twin q s t) : Twin q (cutLink port s) (cutLink port t) := by
  subst h
  cases port
  · exact rfl
  · rw [cutLink, cutLink, abortCTransmission_eq, abortCTransmission_eq]
    exact rfl

theorem linkDown_twin (port : Port) (h : Twin q s t) : Twin q (linkDown port s) (linkDown port t) := by
  rw [linkDown_eq, linkDown_eq]
  exact cutLink_twin port (raiseFlag_twin _ h)

theorem faultyReception_twin (port : Port) (h : Twin q s t) : Twin q (faultyReception port s) (faultyReception port t) := by
  unfold faultyReception
  rw [linkOf_twin port h]
  split
  · dsimp only
    split
    · exact setLink_twin _ _ (raiseFlag_twin _ h)
    · exact linkDown_twin _ (raiseFlag_twin _ h)
  · exact setLink_twin _ _ h
  · exact h

/-- An operation that takes twins to twins. -/
def QueueBlind (f : State → State) : Prop := ∀ q s t, Twin q s t → Twin q (f s) (f t)

theorem receiveFrame_twin (port : Port) (accepted : Bool) {route : State → State} (hroute : QueueBlind route) (h : Twin q s t) :
    Twin q (receiveFrame port accepted route s) (receiveFrame port accepted route t) := by
  unfold receiveFrame
  rw [linkOf_twin port h]
  split
  · split
    · exact hroute _ _ _ (setLink_twin _ _ h)
    · exact faultyReception_twin _ h
  · exact faultyReception_twin _ h

theorem openFrame_twin (port : Port) (h : Twin q s t) : Twin q (openFrame port s) (openFrame port t) := by
  unfold openFrame
  rw [linkOf_twin port h]
  split
  · exact h
  · exact setLink_twin _ _ h
  · exact setLink_twin _ _ h

theorem framingErrorStep_twin (port : Port) (e : FramingError) (h : Twin q s t) :
    Twin q (framingErrorStep port e s) (framingErrorStep port e t) := by
  unfold framingErrorStep
  rw [linkOf_twin port h]
  split
  · split
    · exact setLink_twin _ _ h
    · exact h
  · split
    · exact setLink_twin _ _ h
    · exact setLink_twin _ _ h
  · split
    · split
      · exact openFrame_twin _ (faultyReception_twin _ h)
      · exact faultyReception_twin _ h
    · exact h

theorem syncStep_twin (port : Port) (h : Twin q s t) : Twin q (syncStep port s) (syncStep port t) := by
  unfold syncStep
  rw [linkOf_twin port h]
  split
  · exact framingErrorStep_twin _ _ h
  · unfold syncOutsideStep
    rw [linkOf_twin port h]
    split
    · exact setLink_twin _ _ h
    · exact setLink_twin _ _ h
    · split
      · exact setLink_twin _ _ h
      · exact linkUp_twin _ h
    · exact h

theorem silenceTimeoutStep_twin (port : Port) (h : Twin q s t) :
    Twin q (silenceTimeoutStep port s) (silenceTimeoutStep port t) := by
  unfold silenceTimeoutStep
  rw [linkOf_twin port h]
  split
  · exact h
  · exact setLink_twin _ _ h
  · exact linkDown_twin _ h

/-! ### The grant and the transmissions -/

theorem grantChoice_twin (h : Twin q s t) : Twin q (grantChoice s) (grantChoice t) := by
  subst h
  have hready : deliveryReady { s with pending := q } = deliveryReady s := rfl
  unfold grantChoice
  rw [hready]
  dsimp only
  split
  · exact rfl
  · split
    · exact rfl
    · split
      · exact rfl
      · split <;> exact rfl

theorem grantStep_twin (h : Twin q s t) : Twin q (grantStep s) (grantStep t) := by
  have hlink : t.cLink = s.cLink := linkOf_twin .c h
  have htransmission : t.cTransmission = s.cTransmission := by subst h; rfl
  unfold grantStep
  rw [hlink, htransmission]
  split
  · exact grantChoice_twin h
  · exact h

theorem completeStep_twin (port : Port) (h : Twin q s t) : Twin q (completeStep port s) (completeStep port t) := by
  subst h
  unfold completeStep
  dsimp only
  split
  · split
    · exact startSTransmission_twin rfl
    · exact rfl
  · split
    · unfold eventCompleted
      dsimp only
      split <;> exact rfl
    · exact rfl

/-! ### Acknowledgement and time -/

theorem insertOwed_twin (f : Flag) (h : Twin q s t) : Twin q (insertOwed s f) (insertOwed t f) := by
  subst h
  unfold insertOwed
  dsimp only
  split
  · split <;> exact rfl
  · exact rfl

theorem resyncEntry_twin (i : Fin 256) (h : Twin q s t) : Twin q (resyncEntry s i) (resyncEntry t i) := by
  subst h
  unfold resyncEntry
  dsimp only
  split
  · exact rfl
  · split
    · split <;> exact rfl
    · exact rfl

theorem foldl_twin {α : Type} {f : State → α → State} (hf : ∀ q s t a, Twin q s t → Twin q (f s a) (f t a)) (l : List α)
    (h : Twin q s t) : Twin q (l.foldl f s) (l.foldl f t) := by
  induction l generalizing s t with
  | nil => exact h
  | cons a rest ih => exact ih (hf _ _ _ a h)

theorem bindings_twin (h : Twin q s t) : t.bindings = s.bindings := by
  subst h
  rfl

theorem takeAck_twin (payload : List Word) (h : Twin q s t) : Twin q (takeAck payload s) (takeAck payload t) := by
  unfold takeAck
  split
  · rename_i expected
    have hdistance : ackDistance expected t = ackDistance expected s := by subst h; rfl
    have hstore : t.store = s.store := by subst h; rfl
    rw [hdistance, hstore]
    dsimp only
    split
    · exact h
    · split
      · have hremoved : Twin q (removeAcknowledged (ackDistance expected s) s) (removeAcknowledged (ackDistance expected s) t) := by
          subst h
          rw [removeAcknowledged_eq, removeAcknowledged_eq]
          exact rfl
        have hlength := congrArg (List.length ∘ State.store) hremoved
        simp only [Function.comp_apply] at hlength
        unfold acknowledge
        dsimp only
        rw [hlength]
        split
        · have howed := foldl_twin (fun _ _ _ => insertOwed_twin) allFlags hremoved
          unfold resyncPass
          dsimp only
          rw [bindings_twin howed]
          exact foldl_twin (fun _ _ _ => resyncEntry_twin) _ howed
        · exact hremoved
      · exact raiseFlag_twin _ h
  · exact raiseFlag_twin _ h

theorem routeAck_twin (address : BitVec 6) (extension : BitVec 15) (payload : List Word) (h : Twin q s t) :
    Twin q (routeAck address extension payload s) (routeAck address extension payload t) := by
  have hnode : t.mode = s.mode ∧ t.address = s.address := by subst h; exact ⟨rfl, rfl⟩
  unfold routeAck
  rw [hnode.1, hnode.2]
  split
  · exact takeAck_twin _ h
  · exact placeReturn_twin _ h

theorem expireBinding_twin (i : Fin 256) (b : Binding) (h : Twin q s t) : Twin q (expireBinding i b s) (expireBinding i b t) := by
  subst h
  unfold expireBinding
  dsimp only
  split
  · exact offerRecord_twin _ rfl
  · exact rfl

theorem decrementEntry_twin (i : Fin 256) (h : Twin q s t) : Twin q (decrementEntry s i) (decrementEntry t i) := by
  unfold decrementEntry
  rw [bindings_twin h]
  split
  · exact h
  · split
    · split
      · exact expireBinding_twin _ _ h
      · subst h
        exact rfl
    · exact h

theorem expireAckTimer_twin (h : Twin q s t) : Twin q (expireAckTimer s) (expireAckTimer t) := by
  subst h
  unfold expireAckTimer
  dsimp only
  split <;> exact rfl

theorem engineTick_twin (h : Twin q s t) : Twin q (engineTick s) (engineTick t) := by
  have htimer : t.ackTimer = s.ackTimer := by subst h; rfl
  unfold engineTick
  rw [htimer]
  split
  · exact h
  · split
    · exact expireAckTimer_twin h
    · subst h
      exact rfl

theorem ackTimerExpiryStep_twin (h : Twin q s t) : Twin q (ackTimerExpiryStep s) (ackTimerExpiryStep t) := by
  have htimer : t.ackTimer = s.ackTimer := by subst h; rfl
  unfold ackTimerExpiryStep
  rw [htimer]
  split
  · split
    · exact expireAckTimer_twin h
    · exact h
  · exact h

theorem tickStep_twin (h : Twin q s t) : Twin q (tickStep s) (tickStep t) := by
  have hadvanced : Twin q (advanceTime s) (advanceTime t) := by subst h; exact rfl
  have hmode : (advanceTime t).mode = (advanceTime s).mode := by subst h; rfl
  unfold tickStep
  dsimp only
  rw [hmode]
  refine engineTick_twin ?_
  split
  · unfold decrementPass
    rw [bindings_twin hadvanced]
    exact foldl_twin (fun _ _ _ => decrementEntry_twin) _ hadvanced
  · exact hadvanced

theorem silenceExpiryStep_twin (i : Fin 256) (h : Twin q s t) : Twin q (silenceExpiryStep i s) (silenceExpiryStep i t) := by
  have hmode : t.mode = s.mode := by subst h; rfl
  unfold silenceExpiryStep
  rw [hmode, bindings_twin h]
  split
  · split
    · exact expireBinding_twin _ _ h
    · exact h
  · exact h

/-! ### Responses and node control -/

theorem queueResponse_twin (r : Response) (h : Twin q s t) : Twin q (queueResponse r s) (queueResponse r t) := by
  subst h
  unfold queueResponse
  dsimp only
  split
  · exact rfl
  · exact raiseFlag_twin _ rfl

theorem respond_twin (r : Response) (h : Twin q s t) : Twin q (respond r s) (respond r t) := by
  have hqueued := queueResponse_twin r h
  unfold respond
  dsimp only
  rw [hqueued]
  exact rfl

theorem sweepEndStep_twin (h : Twin q s t) : Twin q (sweepEndStep s) (sweepEndStep t) := by
  subst h
  unfold sweepEndStep
  dsimp only
  split
  · exact rfl
  · split
    · exact rfl
    · exact respond_twin _ rfl

theorem abortSweep_twin (sweep : Option Sweep) (h : Twin q s t) : Twin q (abortSweep sweep s) (abortSweep sweep t) := by
  unfold abortSweep
  split
  · split
    · exact h
    · exact queueResponse_twin _ h
  · exact h

theorem takeAddress_twin (a : BitVec 6) (h : Twin q s t) : Twin q (takeAddress a s) (takeAddress a t) := by
  subst h
  unfold takeAddress
  dsimp only
  split <;> exact rfl

theorem changeMode_twin (m : Mode) (h : Twin q s t) : Twin q (changeMode m s) (changeMode m t) := by
  subst h
  rw [changeMode_eq, changeMode_eq]
  exact rfl

/-! ### Requests -/

/-- A request's result on twins: twins, and the same reply. -/
def TwinResult (q : List Instr) (x y : State × Reply) : Prop := Twin q x.1 y.1 ∧ y.2 = x.2

theorem TwinResult.refuse (status : Status) (h : Twin q s t) : TwinResult q (refuse status s) (refuse status t) := ⟨h, rfl⟩

theorem TwinResult.same {status : Status} {results : List (Option Word)} {u v : State} (h : Twin q u v) :
    TwinResult q (u, .answer status results) (v, .answer status results) := ⟨h, rfl⟩

theorem bindRequest_twin (operands : List Word) (h : Twin q s t) :
    TwinResult q (bindRequest operands s) (bindRequest operands t) := by
  subst h
  have hkey : ∀ source channel, findKey source channel { s with pending := q } = findKey source channel s := fun _ _ => rfl
  unfold bindRequest
  simp only [hkey]
  repeat' split
  all_goals exact ⟨rfl, rfl⟩

theorem unbindRequest_twin (operands : List Word) (h : Twin q s t) :
    TwinResult q (unbindRequest operands s) (unbindRequest operands t) := by
  subst h
  unfold unbindRequest
  dsimp only
  repeat' split
  all_goals exact ⟨rfl, rfl⟩

theorem modifyBindingRequest_twin (operands : List Word) (h : Twin q s t) :
    TwinResult q (modifyBindingRequest operands s) (modifyBindingRequest operands t) := by
  subst h
  unfold modifyBindingRequest
  dsimp only
  repeat' split
  all_goals exact ⟨rfl, rfl⟩

theorem readBindingRequest_twin (operands : List Word) (h : Twin q s t) :
    TwinResult q (readBindingRequest operands s) (readBindingRequest operands t) := by
  subst h
  unfold readBindingRequest
  dsimp only
  split
  · split
    · exact ⟨rfl, rfl⟩
    · split
      · exact ⟨rfl, rfl⟩
      · refine .same ?_
        split <;> exact rfl
  · exact ⟨rfl, rfl⟩

theorem loadProfileRequest_twin (operands : List Word) (h : Twin q s t) :
    TwinResult q (loadProfileRequest operands s) (loadProfileRequest operands t) := by
  subst h
  unfold loadProfileRequest loadSpan loadExplicit storeProfile
  dsimp only
  repeat' split
  all_goals exact ⟨rfl, rfl⟩

theorem clearProfileRequest_twin (operands : List Word) (h : Twin q s t) :
    TwinResult q (clearProfileRequest operands s) (clearProfileRequest operands t) := by
  subst h
  unfold clearProfileRequest
  dsimp only
  repeat' split
  all_goals exact ⟨rfl, rfl⟩

theorem copyActiveRequest_twin (operands : List Word) (h : Twin q s t) :
    TwinResult q (copyActiveRequest operands s) (copyActiveRequest operands t) := by
  subst h
  unfold copyActiveRequest
  dsimp only
  repeat' split
  all_goals exact ⟨rfl, rfl⟩

theorem readProfileRequest_twin (operands : List Word) (h : Twin q s t) :
    TwinResult q (readProfileRequest operands s) (readProfileRequest operands t) := by
  subst h
  unfold readProfileRequest profileUsers
  dsimp only
  split
  · split <;> exact ⟨rfl, rfl⟩
  · exact ⟨rfl, rfl⟩

theorem commitRequest_twin (tag : BitVec 8) (broadcast : Bool) (operands : List Word) (h : Twin q s t) :
    TwinResult q (commitRequest tag broadcast operands s) (commitRequest tag broadcast operands t) := by
  subst h
  have hconflict : commitConflict { s with pending := q } = commitConflict s := rfl
  unfold commitRequest
  rw [hconflict]
  dsimp only
  repeat' split
  all_goals exact ⟨rfl, rfl⟩

theorem settingRequests_twin (operands : List Word) (h : Twin q s t) :
    TwinResult q (clearStatusRequest operands s) (clearStatusRequest operands t)
      ∧ TwinResult q (setTickRequest operands s) (setTickRequest operands t)
      ∧ TwinResult q (setDeliveryRequest operands s) (setDeliveryRequest operands t)
      ∧ TwinResult q (setNoticesRequest operands s) (setNoticesRequest operands t)
      ∧ TwinResult q (setDefaultRequest operands s) (setDefaultRequest operands t) := by
  subst h
  unfold clearStatusRequest setTickRequest setDeliveryRequest setNoticesRequest setDefaultRequest
  dsimp only
  refine ⟨?_, ?_, ?_, ?_, ?_⟩
  all_goals
    repeat' split
    all_goals exact ⟨rfl, rfl⟩

theorem readingRequests_twin (operands : List Word) (h : Twin q s t) :
    TwinResult q (identifyRequest operands s) (identifyRequest operands t)
      ∧ TwinResult q (readStatusRequest operands s) (readStatusRequest operands t) := by
  subst h
  unfold identifyRequest readStatusRequest
  dsimp only
  constructor <;> split <;> exact ⟨rfl, rfl⟩

theorem clearStallRequest_twin (operands : List Word) (h : Twin q s t) :
    TwinResult q (clearStallRequest operands s) (clearStallRequest operands t) := by
  subst h
  unfold clearStallRequest
  dsimp only
  split
  · refine .same ?_
    split <;> exact rfl
  · exact ⟨rfl, rfl⟩

theorem setModeRequest_twin (operands : List Word) (h : Twin q s t) :
    TwinResult q (setModeRequest operands s) (setModeRequest operands t) := by
  have hnode : t.mode = s.mode ∧ t.sweep = s.sweep := by subst h; exact ⟨rfl, rfl⟩
  unfold setModeRequest
  rw [hnode.1, hnode.2]
  split
  · split
    · exact ⟨h, rfl⟩
    · split
      · exact ⟨changeMode_twin _ h, rfl⟩
      · split
        · exact ⟨changeMode_twin _ h, rfl⟩
        · exact ⟨h, rfl⟩
  · exact ⟨h, rfl⟩

theorem restartRequest_twin (operands : List Word) (h : Twin q s t) :
    TwinResult q (restartRequest operands s) (restartRequest operands t) := by
  subst h
  unfold restartRequest
  dsimp only
  split
  · exact .same (abortSweep_twin _ rfl)
  · exact ⟨rfl, rfl⟩

/-! ### The agent and the router -/

theorem runCommand_twin (command : Command) (tag : BitVec 8) (broadcast : Bool) (operands : List Word) (h : Twin q s t) :
    TwinResult q (runCommand command tag broadcast operands s) (runCommand command tag broadcast operands t) := by
  obtain ⟨hidentify, hreadStatus⟩ := readingRequests_twin operands h
  obtain ⟨hclearStatus, hsetTick, hsetDelivery, hsetNotices, hsetDefault⟩ := settingRequests_twin operands h
  cases command with
  | identify => exact hidentify
  | readStatus => exact hreadStatus
  | clearStatus => exact hclearStatus
  | setMode => exact setModeRequest_twin _ h
  | restart => exact restartRequest_twin _ h
  | bind => exact bindRequest_twin _ h
  | unbind => exact unbindRequest_twin _ h
  | modifyBinding => exact modifyBindingRequest_twin _ h
  | readBinding => exact readBindingRequest_twin _ h
  | loadProfile => exact loadProfileRequest_twin _ h
  | clearProfile => exact clearProfileRequest_twin _ h
  | copyActive => exact copyActiveRequest_twin _ h
  | commit => exact commitRequest_twin _ _ _ h
  | readProfile => exact readProfileRequest_twin _ h
  | setTick => exact hsetTick
  | setDelivery => exact hsetDelivery
  | clearStall => exact clearStallRequest_twin _ h
  | setNotices => exact hsetNotices
  | setDefault => exact hsetDefault

theorem executeRequest_twin (code : BitVec 8) (r : Request) (broadcast : Bool) (h : Twin q s t) :
    TwinResult q (executeRequest code r broadcast s) (executeRequest code r broadcast t) := by
  unfold executeRequest
  split
  · exact .refuse _ h
  · split
    · exact runCommand_twin _ _ _ _ h
    · exact .refuse _ h

theorem takeUnicast_twin (code : BitVec 8) (r : Request) (h : Twin q s t) :
    Twin q (takeUnicast code r s) (takeUnicast code r t) := by
  have hagent : repeatsCommit code r.tag t = repeatsCommit code r.tag s ∧ t.responses = s.responses
      ∧ cachedResponse code r.tag t = cachedResponse code r.tag s := by subst h; exact ⟨rfl, rfl, rfl⟩
  obtain ⟨hrepeats, hresponses, hcached⟩ := hagent
  unfold takeUnicast
  rw [hrepeats, hresponses, hcached]
  split
  · exact h
  · split
    · exact raiseFlag_twin _ h
    · split
      · subst h
        exact rfl
      · obtain ⟨hstate, hreply⟩ := executeRequest_twin code r false h
        unfold answerRequest
        rw [hreply]
        split
        · exact respond_twin _ hstate
        · exact hstate

theorem takeBroadcast_twin (code : BitVec 8) (r : Request) (h : Twin q s t) :
    Twin q (takeBroadcast code r s) (takeBroadcast code r t) := by
  have hresponses : t.responses = s.responses := by subst h; rfl
  unfold takeBroadcast
  rw [hresponses]
  split
  · split
    · exact raiseFlag_twin _ h
    · exact (executeRequest_twin code r true h).1
  · exact h

theorem routeRequest_twin (code : BitVec 8) (r : Request) (h : Twin q s t) :
    Twin q (routeRequest code r s) (routeRequest code r t) := by
  have hnode : t.mode = s.mode ∧ t.address = s.address := by subst h; exact ⟨rfl, rfl⟩
  unfold routeRequest
  rw [hnode.1, hnode.2]
  split
  · exact placeReturn_twin _ h
  · split
    · exact takeUnicast_twin _ _ h
    · split
      · exact takeBroadcast_twin _ _ (placeReturn_twin _ h)
      · exact placeReturn_twin _ h

theorem routeSample_twin (f : SampleFrame) (h : Twin q s t) : Twin q (routeSample f s) (routeSample f t) := by
  have hmode : t.mode = s.mode := by subst h; rfl
  unfold routeSample
  rw [hmode]
  split
  · obtain ⟨hstate, hkept⟩ := classifyPairs_twin f.source f.pairs h
    unfold classifyFrame
    dsimp only
    rw [hkept]
    split
    · exact hstate
    · exact placeForward_twin _ hstate
  · exact placeForward_twin _ h

theorem routeEnum_twin (address : BitVec 6) (extension : BitVec 15) (payload : List Word) (h : Twin q s t) :
    Twin q (routeEnum address extension payload s) (routeEnum address extension payload t) :=
  placeReturn_twin _ (takeAddress_twin _ h)

theorem routeReset_twin (address : BitVec 6) (extension : BitVec 15) (payload : List Word) (h : Twin q s t) :
    Twin q (routeReset address extension payload s) (routeReset address extension payload t) :=
  placeReturn_twin _ (by subst h; exact rfl)

theorem dispatchFrame_twin (port : Port) (f : Frame) (h : Twin q s t) :
    Twin q (dispatchFrame port f s) (dispatchFrame port f t) := by
  unfold dispatchFrame
  split
  · unfold dispatchFromS
    split
    · split
      · exact routeSample_twin _ h
      · exact placeForward_twin _ h
    · exact placeForward_twin _ h
  · unfold dispatchFromC
    split
    · exact routeAck_twin _ _ _ h
    · split
      · split
        · exact routeRequest_twin _ _ h
        · exact placeReturn_twin _ h
      · split
        · exact routeEnum_twin _ _ _ h
        · split
          · exact routeReset_twin _ _ _ h
          · exact placeReturn_twin _ h

theorem receiveWords_twin (port : Port) (r : Reception) (h : Twin q s t) :
    Twin q (receiveWords port r s) (receiveWords port r t) := by
  unfold receiveWords
  split
  · unfold rejectReception
    split
    · exact framingErrorStep_twin _ _ h
    · exact faultyReception_twin _ h
  · exact receiveFrame_twin _ _ (fun _ _ _ => dispatchFrame_twin _ _) h

/-! ### Commands -/

/-- Every command but POWER_ON is a queue-blind effect, taken while the part runs. -/
theorem exec_queueBlind {c : Instr} (hc : ∀ p, c ≠ .powerOn p) : ∃ f, QueueBlind f ∧ ∀ s, exec c s = whenRunning f s := by
  have hrequest : ∀ code r, QueueBlind (receiveFrame .c r.fits (routeRequest code r)) := fun code r _ _ _ =>
    receiveFrame_twin _ _ fun _ _ _ => routeRequest_twin code r
  cases c with
  | powerOn p => exact absurd rfl (hc p)
  | syncReceived port => exact ⟨_, fun _ _ _ => syncStep_twin _, fun _ => rfl⟩
  | framingError port e => exact ⟨_, fun _ _ _ => framingErrorStep_twin _ _, fun _ => rfl⟩
  | linkSilenceTimeout port => exact ⟨_, fun _ _ _ => silenceTimeoutStep_twin _, fun _ => rfl⟩
  | faultyFrame port r => exact ⟨_, fun _ _ _ => receiveWords_twin _ _, fun _ => rfl⟩
  | sample f => exact ⟨_, fun _ _ _ => receiveFrame_twin _ _ fun _ _ _ => routeSample_twin f, fun _ => rfl⟩
  | forwardUnchanged port f =>
    exact ⟨_, fun _ _ _ => receiveFrame_twin _ _ fun _ _ _ => dispatchFrame_twin port f, fun _ => rfl⟩
  | ack a x ws => exact ⟨_, fun _ _ _ => receiveFrame_twin _ _ fun _ _ _ => routeAck_twin a x ws, fun _ => rfl⟩
  | enum a x ws => exact ⟨_, fun _ _ _ => receiveFrame_twin _ _ fun _ _ _ => routeEnum_twin a x ws, fun _ => rfl⟩
  | chainReset a x ws => exact ⟨_, fun _ _ _ => receiveFrame_twin _ _ fun _ _ _ => routeReset_twin a x ws, fun _ => rfl⟩
  | tick => exact ⟨_, fun _ _ _ => tickStep_twin, fun _ => rfl⟩
  | silenceExpiry i => exact ⟨_, fun _ _ _ => silenceExpiryStep_twin i, fun _ => rfl⟩
  | ackTimerExpiry => exact ⟨_, fun _ _ _ => ackTimerExpiryStep_twin, fun _ => rfl⟩
  | cPortGrant => exact ⟨_, fun _ _ _ => grantStep_twin, fun _ => rfl⟩
  | sPortTransmitStart => exact ⟨_, fun _ _ _ => startSTransmission_twin, fun _ => rfl⟩
  | transmissionComplete port => exact ⟨_, fun _ _ _ => completeStep_twin port, fun _ => rfl⟩
  | commitSweepEnd => exact ⟨_, fun _ _ _ => sweepEndStep_twin, fun _ => rfl⟩
  | _ => exact ⟨_, hrequest _ _, fun _ => rfl⟩

/-- Settles O2: a command takes twins to twins. A state is its own twin with its own queue, so that the command leaves the queue. -/
theorem execLeavesQueueAlone : Obligations.ExecLeavesQueueAlone := by
  intro c s t q hexec
  by_cases hpower : ∃ p, c = .powerOn p
  · obtain ⟨p, rfl⟩ := hpower
    cases hexec
    exact ⟨rfl, rfl⟩
  · obtain ⟨f, hblind, hf⟩ := exec_queueBlind fun p hp => hpower ⟨p, hp⟩
    rw [hf] at hexec ⊢
    by_cases hrunning : s.pins = runningPins
    · have htwin : ∀ q', Twin q' (grantStep (f s)) (grantStep (f { s with pending := q' })) := fun q' =>
        grantStep_twin (hblind q' _ _ rfl)
      rw [whenRunning_running _ hrunning] at hexec
      cases hexec
      have hown : grantStep (f s) = { grantStep (f s) with pending := s.pending } := htwin s.pending
      have hqueue := congrArg State.pending hown
      refine ⟨hqueue, ?_⟩
      rw [whenRunning_running (s := { s with pending := q }) _ hrunning]
      exact congrArg Host.Outcome.next (htwin q)
    · rw [whenRunning_held _ hrunning] at hexec
      cases hexec
      exact ⟨rfl, whenRunning_held (s := { s with pending := q }) _ hrunning⟩

end Sys2Proof.Machine

/-! The rules of steps, power and the held part (§10.3), and those of the whole machine (§4.1, §6.1, §2.2). -/

namespace Sys2Proof.Machine

set_option Elab.async false

open Sys2Proof.Safety

variable {c : Instr} {s t : State}

/-- Settles O1. -/
theorem stepTakesFrontCommand : Obligations.StepTakesFrontCommand :=
  ⟨fun _ _ _ => rfl, fun _ hpending => by rw [step, hpending]⟩

/-- Settles O3: each command is POWER_ON or an effect taken while the part runs, and both answer a next state. -/
theorem everyCommandAnswersNext : Obligations.EveryCommandAnswersNext := by
  intro c s
  by_cases hpower : ∃ p, c = .powerOn p
  · obtain ⟨p, rfl⟩ := hpower
    exact ⟨_, rfl⟩
  · obtain ⟨f, -, hf⟩ := exec_queueBlind fun p hp => hpower ⟨p, hp⟩
    exact ⟨_, hf s⟩

/-- Settles O4. -/
theorem powerOnLeavesPowerOnState : Obligations.PowerOnLeavesPowerOnState := fun _ _ => rfl

/-- Settles O5. -/
theorem heldPartTakesNothing : Obligations.HeldPartTakesNothing := fun _ _ => exec_held

/-! ### What only their commands change -/

theorem Act.times (h : Act c s t) (hc : c ≠ .tick) : t.tickCount = s.tickCount ∧ t.periodInProgress = s.periodInProgress := by
  cases h with
  | time ticks => exact absurd ticks hc
  | link port => exact ⟨setLink_tickCount _ _ _, setLink_periodInProgress _ _ _⟩
  | cut port =>
    cases port with
    | s => exact ⟨rfl, rfl⟩
    | c => rw [cutLink, abortCTransmission_eq]; exact ⟨rfl, rfl⟩
  | sPort => exact ⟨startSTransmission_tickCount _, startSTransmission_periodInProgress _⟩
  | address a => unfold takeAddress; split <;> exact ⟨rfl, rfl⟩
  | mode m => rw [changeMode_eq]; exact ⟨rfl, rfl⟩
  | acknowledge d => rw [removeAcknowledged_eq]; exact ⟨rfl, rfl⟩
  | _ => exact ⟨rfl, rfl⟩

theorem Act.nextSequence (h : Act c s t) : t.nextSequence = s.nextSequence := by
  cases h with
  | link port => exact setLink_nextSequence _ _ _
  | cut port =>
    cases port with
    | s => rfl
    | c => rw [cutLink, abortCTransmission_eq]
  | sPort => exact startSTransmission_nextSequence _
  | address a => unfold takeAddress; split <;> rfl
  | mode m => rw [changeMode_eq]
  | acknowledge d => rw [removeAcknowledged_eq]
  | _ => rfl

theorem Act.activeBank (h : Act c s t) (hc : c ≠ .commitSweepEnd) : t.activeBank = s.activeBank := by
  cases h with
  | exchange ends => exact absurd ends hc
  | link port => exact setLink_activeBank _ _ _
  | cut port =>
    cases port with
    | s => rfl
    | c => rw [cutLink, abortCTransmission_eq]
  | sPort => exact startSTransmission_activeBank _
  | address a => unfold takeAddress; split <;> rfl
  | mode m => rw [changeMode_eq]
  | acknowledge d => rw [removeAcknowledged_eq]
  | _ => rfl

theorem Acts.times (h : Acts c s t) (hc : c ≠ .tick) : t.tickCount = s.tickCount ∧ t.periodInProgress = s.periodInProgress :=
  h.keep (P := fun u => u.tickCount = s.tickCount ∧ u.periodInProgress = s.periodInProgress)
    (fun _ _ hact hu => ⟨(hact.times hc).1.trans hu.1, (hact.times hc).2.trans hu.2⟩) ⟨rfl, rfl⟩

theorem Acts.nextSequence (h : Acts c s t) : t.nextSequence = s.nextSequence :=
  h.keep (P := fun u => u.nextSequence = s.nextSequence) (fun _ _ hact hu => hact.nextSequence.trans hu) rfl

theorem Acts.activeBank (h : Acts c s t) (hc : c ≠ .commitSweepEnd) : t.activeBank = s.activeBank :=
  h.keep (P := fun u => u.activeBank = s.activeBank) (fun _ _ hact hu => (hact.activeBank hc).trans hu) rfl

/-- R74: a tick adds one to the tick count; what follows within it adds none. -/
theorem tickStep_tickCount (s : State) : (tickStep s).tickCount = s.tickCount + 1 :=
  ((tickStep_acts_of_advanced (c := .ackTimerExpiry) s).times nofun).1

/-- R115: a grant advances the next sequence number by the records without a number that its EVENT frame takes, at most 8. -/
theorem grantStep_nextSequence (s : State) :
    (grantStep s).nextSequence = s.nextSequence
    ∨ ∃ frame sequences k, (grantStep s).cTransmission = some (.event frame sequences) ∧ (grantStep s).forwardCount = 0
        ∧ 1 ≤ k ∧ k ≤ 8 ∧ (grantStep s).nextSequence = s.nextSequence + BitVec.ofNat 16 k := by
  rcases grantStep_cases s with h | ⟨-, -, ⟨r, rest, -, h⟩ | ⟨f, rest, -, -, h⟩ | ⟨-, -, h⟩⟩ <;> rw [h]
  · exact .inl rfl
  · exact .inl rfl
  · exact .inl rfl
  · have hnext : (grantDelivery s).nextSequence = _ := takeRecords_nextSequence _ _ _ _
    by_cases hzero : ((s.store.filter isUnsent).take (8 - s.store.countP isResend)).length = 0
    · refine .inl (hnext.trans ?_)
      rw [hzero]
      exact BitVec.add_zero _
    · refine .inr ⟨_, _, _, rfl, rfl, Nat.one_le_iff_ne_zero.mpr hzero, ?_, hnext⟩
      exact (List.length_take_le _ _).trans (Nat.sub_le _ _)

/-- Settles O54: no act but those of a tick and of a sweep's end writes the tick count or the active bank, and the grant alone
writes the next sequence number. -/
theorem onlyTheirCommandsChangeThem : Obligations.OnlyTheirCommandsChangeThem := by
  intro c s t hexec hc
  by_cases hrunning : s.pins = runningPins
  · obtain ⟨u, hu, hacts⟩ := exec_acts hrunning hc
    cases hexec.symm.trans hu
    rw [grantStep_tickCount, grantStep_periodInProgress, grantStep_activeBank, ← hacts.nextSequence]
    refine ⟨hacts.times, fun htick _ => ?tick, grantStep_nextSequence u, hacts.activeBank⟩
    case tick =>
      subst htick
      have hsame : grantStep u = grantStep (tickStep s) :=
        Host.Outcome.next.inj (hu.symm.trans (whenRunning_running tickStep hrunning))
      rw [← grantStep_tickCount, hsame, grantStep_tickCount, tickStep_tickCount]
  · cases hexec.symm.trans (exec_held hrunning hc)
    exact ⟨fun _ => ⟨rfl, rfl⟩, fun _ h => absurd h hrunning, .inl rfl, fun _ => rfl⟩

end Sys2Proof.Machine

/-! The links (R137 to R143): what each happening of a receiver does in each link state. -/

namespace Sys2Proof.Machine

set_option Elab.async false

open Sys2Proof.Safety

variable {port : Port} {s : State}

/-! ### Framing errors, by the port's link state -/

theorem errorIsSync_eq (e : FramingError) : errorIsSync e = decide (e = .syncInside) := by cases e <;> rfl

theorem errorIsStart_eq (e : FramingError) : errorIsStart e = decide (e = .startInside) := by cases e <;> rfl

theorem errorEndsFrame_iff {e : FramingError} : errorEndsFrame e = true ↔ e ∈ [FramingError.endOutside, .abortOutside] := by
  cases e <;> simp [errorEndsFrame]

theorem errorInside_iff {e : FramingError} :
    errorInside e = true ↔ e ∈ [FramingError.violationInside, .startInside, .syncInside, .idleInside] := by
  cases e <;> simp [errorInside]

theorem framingErrorStep_down (e : FramingError) (h : linkOf port s = .down) :
    framingErrorStep port e s = if e = .syncInside then setLink port (.acquiring 0 true false) s else s := by
  rw [framingErrorStep, h, errorIsSync_eq]
  simp only [decide_eq_true_eq]

theorem framingErrorStep_acquiring {n : Nat} {o a : Bool} (e : FramingError) (h : linkOf port s = .acquiring n o a) :
    framingErrorStep port e s =
      if a = true ∧ e ∈ [FramingError.endOutside, .abortOutside] then setLink port (.acquiring n o false) s
      else setLink port (.acquiring 0 (decide (e = .syncInside)) (decide (e = .startInside))) s := by
  rw [framingErrorStep, h, errorIsSync_eq, errorIsStart_eq]
  simp only [Bool.and_eq_true, errorEndsFrame_iff]

theorem framingErrorStep_up {n : Nat} {a : Bool} (e : FramingError) (h : linkOf port s = .up n a) :
    framingErrorStep port e s =
      if a = true ∨ errorInside e = true then
        if e = .startInside then openFrame port (faultyReception port s) else faultyReception port s
      else s := by
  rw [framingErrorStep, h, errorIsStart_eq]
  simp only [Bool.or_eq_true, decide_eq_true_eq]

/-! ### Receptions on a port that is not UP -/

theorem readReception_of_early {r : Reception} (h : r.closing ≠ .endMarker) : readReception r = none := by
  unfold readReception
  split
  · exact absurd (by assumption) h
  · rfl

/-- On a port that is not UP a reception is rejected, whatever it carries. -/
theorem receiveWords_notUp (r : Reception) (h : ∀ n a, linkOf port s ≠ .up n a) :
    receiveWords port r s = rejectReception port r s := by
  unfold receiveWords
  split
  · rfl
  · rename_i f hread
    have hend : r.closing = .endMarker := by
      by_contra hearly
      rw [readReception_of_early hearly] at hread
      cases hread
    rw [receiveFrame_notUp _ _ h, rejectReception, hend]
    rfl

/-- A port that is not UP accepts no frame of any command: each is a faulty reception. -/
theorem exec_frame_notUp (hrunning : s.pins = runningPins) (h : ∀ n a, linkOf port s ≠ .up n a) :
    (∀ f, exec (.forwardUnchanged port f) s = .next (grantStep (faultyReception port s)))
    ∧ (port = .s → ∀ f, exec (.sample f) s = .next (grantStep (faultyReception port s)))
    ∧ (port = .c →
        (∀ a x ws, exec (.ack a x ws) s = .next (grantStep (faultyReception port s))
          ∧ exec (.enum a x ws) s = .next (grantStep (faultyReception port s))
          ∧ exec (.chainReset a x ws) s = .next (grantStep (faultyReception port s)))
        ∧ (∀ code r, exec (.unknownCommand code r) s = .next (grantStep (faultyReception port s)))
        ∧ ∀ c r, exec (requestCommand c r) s = .next (grantStep (faultyReception port s))) := by
  have hframe : ∀ accepted route,
      whenRunning (receiveFrame port accepted route) s = .next (grantStep (faultyReception port s)) := by
    intro accepted route
    rw [whenRunning_running _ hrunning, receiveFrame_notUp _ _ h]
  refine ⟨fun f => hframe _ _, ?_, ?_⟩
  · rintro rfl f
    exact hframe _ _
  · rintro rfl
    refine ⟨fun a x ws => ⟨hframe _ _, hframe _ _, hframe _ _⟩, fun code r => hframe _ _, fun c r => ?_⟩
    rw [exec_requestCommand]
    exact hframe _ _

/-! ### DOWN and ACQUIRING -/

theorem rejectReception_down (r : Reception) (h : linkOf port s = .down) :
    rejectReception port r s = if r.closing = .syncMarker then setLink port (.acquiring 0 true false) s else s := by
  unfold rejectReception
  cases hclosing : r.closing <;> simp [closingError, framingErrorStep_down _ h, faultyReception_down h]

theorem rejectReception_acquiring {n : Nat} {o a : Bool} (r : Reception) (h : linkOf port s = .acquiring n o a) :
    rejectReception port r s =
      setLink port
        (if r.closing = .endMarker ∨ r.closing = .abortMarker then .acquiring n o false
          else .acquiring 0 (decide (r.closing = .syncMarker)) (decide (r.closing = .startMarker))) s := by
  unfold rejectReception
  cases hclosing : r.closing <;> simp [closingError, framingErrorStep_acquiring _ h, faultyReception_acquiring h]

/-- Settles O6: a DOWN port is moved by a SYNC and by nothing else. -/
theorem downPortWaitsForSync : Obligations.DownPortWaitsForSync := by
  intro port s hrunning hdown
  have hnotUp : ∀ n a, linkOf port s ≠ .up n a := by rw [hdown]; exact nofun
  have hframes := exec_frame_notUp hrunning hnotUp
  rw [faultyReception_down hdown] at hframes
  obtain ⟨hforward, hsample, hc⟩ := hframes
  have herror : ∀ e, exec (.framingError port e) s = .next (grantStep (framingErrorStep port e s)) := fun _ =>
    whenRunning_running _ hrunning
  have hwords : ∀ r, exec (.faultyFrame port r) s = .next (grantStep (rejectReception port r s)) := by
    intro r
    rw [← receiveWords_notUp r hnotUp]
    exact whenRunning_running _ hrunning
  have hsync : syncStep port s = setLink port (.acquiring 0 true false) s := by
    rw [syncStep, hdown, syncOutsideStep, hdown]
    rfl
  have hsilence : silenceTimeoutStep port s = s := by rw [silenceTimeoutStep, hdown]
  refine ⟨?_, ?_, fun ws => ?_, fun e he => ?_, fun r hr => ?_, hforward, hsample, hc, ?_⟩
  · rw [← hsync]
    exact whenRunning_running _ hrunning
  · rw [herror, framingErrorStep_down _ hdown, if_pos rfl]
  · rw [hwords, rejectReception_down _ hdown, if_pos rfl]
  · rw [herror, framingErrorStep_down _ hdown, if_neg he]
  · rw [hwords, rejectReception_down _ hdown, if_neg hr]
  · rw [← congrArg grantStep hsilence]
    exact whenRunning_running _ hrunning

/-- A SYNC on an ACQUIRING port outside a frame ends the interval that is open, or begins one. -/
theorem syncStep_acquiring_outside {n : Nat} {o : Bool} (h : linkOf port s = .acquiring n o false) :
    syncStep port s =
      if o = true then if n + 1 < 4 then setLink port (.acquiring (n + 1) true false) s else linkUp port s
      else setLink port (.acquiring n true false) s := by
  rw [syncStep, h, syncOutsideStep, h]
  cases o <;> rfl

theorem syncStep_inside {n : Nat} {o : Bool} (h : linkOf port s = .acquiring n o true) :
    syncStep port s = setLink port (.acquiring 0 true false) s := by
  rw [syncStep, h]
  simp [isAssembling, framingErrorStep_acquiring _ h]

/-- Settles O7, by what the receiver takes and the interval that is open. -/
theorem acquiringPortCountsCleanIntervals : Obligations.AcquiringPortCountsCleanIntervals := by
  intro port s hrunning
  have hsync : exec (.syncReceived port) s = .next (grantStep (syncStep port s)) := whenRunning_running _ hrunning
  have herror : ∀ e, exec (.framingError port e) s = .next (grantStep (framingErrorStep port e s)) := fun _ =>
    whenRunning_running _ hrunning
  refine ⟨fun n hn h => ?counted, fun h => ⟨fun hnone => ?up, fun f rest hport hidle hqueue => ?upSends⟩, fun n h => ?begun,
    fun n o h => ⟨?syncInside, fun e he => ?ended⟩, fun n o a h => ?other⟩
  case counted => rw [hsync, syncStep_acquiring_outside h, if_pos rfl, if_pos (by omega)]
  case up => rw [hsync, syncStep_acquiring_outside h, if_pos rfl, if_neg (by omega), linkUp_of_none hnone]
  case upSends =>
    subst hport
    rw [hsync, syncStep_acquiring_outside h, if_pos rfl, if_neg (by omega), linkUp_of_frame hidle hqueue]
  case begun => rw [hsync, syncStep_acquiring_outside h, if_neg nofun]
  case syncInside => rw [hsync, syncStep_inside h]
  case ended => rw [herror, framingErrorStep_acquiring _ h, if_pos ⟨rfl, he⟩]
  case other =>
    have hnotUp : ∀ n a, linkOf port s ≠ .up n a := by rw [h]; exact nofun
    have hframes := exec_frame_notUp hrunning hnotUp
    rw [faultyReception_acquiring h] at hframes
    have hsilence : silenceTimeoutStep port s = setLink port .down s := by rw [silenceTimeoutStep, h]
    refine ⟨fun e he => ?_, ?_, fun r => ?_, hframes⟩
    · have hnot : ¬ (a = true ∧ e ∈ [FramingError.endOutside, .abortOutside]) := by
        rintro ⟨ha, hends⟩
        exact he.elim (fun h => by rw [h] at ha; cases ha) fun h => h hends
      rw [herror, framingErrorStep_acquiring _ h, if_neg hnot]
    · rw [← hsilence]
      exact whenRunning_running _ hrunning
    · rw [← rejectReception_acquiring r h, ← receiveWords_notUp r hnotUp]
      exact whenRunning_running _ hrunning

/-! ### UP -/

theorem setLink_setLink (port : Port) (l l' : Link) (s : State) : setLink port l (setLink port l' s) = setLink port l s := by
  cases port <;> rfl

/-- R143, R146, R118: what a port that goes DOWN leaves. -/
theorem linkDown_eq_afterLinkLoss (port : Port) (s : State) : linkDown port s = afterLinkLoss port s := by
  cases port with
  | s => rfl
  | c =>
    rw [linkDown, abortCTransmission_eq, afterLinkLoss, raiseFlag_cTransmission]

theorem linkOf_afterLinkLoss (port : Port) (s : State) : linkOf port (afterLinkLoss port s) = .down := by cases port <;> rfl

theorem rxFaultFlag_eq (port : Port) : rxFaultFlag port = if port = .s then .rxFaultS else .rxFaultC := by cases port <;> rfl

/-- The state after a faulty frame on an UP port, whose START opens a new frame or not (R139, R142). -/
theorem faulty_opened {n : Nat} {a : Bool} (h : linkOf port s = .up n a) (start : Prop) [Decidable start] :
    (n < 15 → (if start then openFrame port (faultyReception port s) else faultyReception port s) =
      setLink port (.up (n + 1) (decide start)) (raiseFlag (rxFaultFlag port) s))
    ∧ (n = 15 → (if start then openFrame port (faultyReception port s) else faultyReception port s) =
      afterLinkLoss port (raiseFlag (rxFaultFlag port) s)) := by
  refine ⟨fun hn => ?_, fun hn => ?_⟩
  · have hfaulty : faultyReception port s = setLink port (.up (n + 1) false) (raiseFlag (rxFaultFlag port) s) := by
      rw [faultyReception_up h, if_pos (show n + 1 < 16 by omega)]
    rw [hfaulty]
    by_cases hstart : start
    · rw [if_pos hstart, openFrame, linkOf_setLink, decide_eq_true hstart]
      exact setLink_setLink _ _ _ _
    · rw [if_neg hstart, decide_eq_false hstart]
  · have hfaulty : faultyReception port s = afterLinkLoss port (raiseFlag (rxFaultFlag port) s) := by
      rw [faultyReception_up h, if_neg (show ¬ n + 1 < 16 by omega), linkDown_eq_afterLinkLoss]
    rw [hfaulty]
    by_cases hstart : start
    · rw [if_pos hstart, openFrame, linkOf_afterLinkLoss]
    · rw [if_neg hstart]

/-- A rejected reception on an UP port is a faulty frame, and a START that closed it opens a new one. -/
theorem receiveWords_rejected {r : Reception} {n : Nat} {a : Bool} (h : linkOf port s = .up n a) (hr : rejected port r = true) :
    receiveWords port r s =
      if r.closing = .startMarker then openFrame port (faultyReception port s) else faultyReception port s := by
  unfold rejected at hr
  unfold receiveWords
  split
  · unfold rejectReception
    cases hclosing : r.closing <;> simp [closingError, framingErrorStep_up _ h, errorInside]
  · rename_i f hread
    rw [hread] at hr
    have hrefused : frameAccepted port f = false := by simpa using hr
    have hend : r.closing ≠ .startMarker := by
      intro hstart
      rw [readReception_of_early (by rw [hstart]; exact nofun)] at hread
      cases hread
    rw [hrefused, receiveFrame_rejected _ h, if_neg hend]

/-- Settles O8: every way of a faulty frame ends in the count of a faulty reception. -/
theorem faultyFrameIsCounted : Obligations.FaultyFrameIsCounted := by
  intro port s n a hrunning h
  rw [← rxFaultFlag_eq]
  have herror : ∀ e, exec (.framingError port e) s = .next (grantStep (framingErrorStep port e s)) := fun _ =>
    whenRunning_running _ hrunning
  have hsync : exec (.syncReceived port) s = .next (grantStep (syncStep port s)) := whenRunning_running _ hrunning
  refine ⟨fun r hr => ?faultyFrame, fun e he => ?inside, fun ha => ⟨fun e he => ?outside, ?syncOutside⟩, fun ha => ?syncInside⟩
  case faultyFrame =>
    have hwords : exec (.faultyFrame port r) s = .next (grantStep (receiveWords port r s)) := whenRunning_running _ hrunning
    obtain ⟨hbelow, hlast⟩ := faulty_opened h (r.closing = .startMarker)
    rw [hwords, receiveWords_rejected h hr]
    exact ⟨fun hn => by rw [hbelow hn], fun hn => by rw [hlast hn]⟩
  case inside =>
    obtain ⟨hbelow, hlast⟩ := faulty_opened h (e = .startInside)
    rw [herror, framingErrorStep_up _ h, if_pos (he.imp_right errorInside_iff.mpr)]
    exact ⟨fun hn => by rw [hbelow hn], fun hn => by rw [hlast hn]⟩
  case outside =>
    have hnot : ¬ (a = true ∨ errorInside e = true) := by
      rw [ha]
      simp only [List.mem_cons, List.not_mem_nil, or_false] at he
      rcases he with rfl | rfl | rfl <;> simp [errorInside]
    rw [herror, framingErrorStep_up _ h, if_neg hnot]
  case syncOutside =>
    rw [hsync, syncStep, h, ha, syncOutsideStep, h]
    rfl
  case syncInside =>
    obtain ⟨hbelow, hlast⟩ := faulty_opened h (FramingError.syncInside = .startInside)
    have hstep : syncStep port s = if FramingError.syncInside = .startInside then openFrame port (faultyReception port s)
        else faultyReception port s := by
      rw [syncStep, h, ha]
      exact (framingErrorStep_up _ h).trans (if_pos (.inl ha))
    rw [hsync, hstep]
    exact ⟨fun hn => by rw [hbelow hn]; rfl, fun hn => by rw [hlast hn]⟩

/-- Settles O9. -/
theorem linkSilenceTakesPortDown : Obligations.LinkSilenceTakesPortDown := by
  intro port s n a hrunning h
  have hstep : silenceTimeoutStep port s = afterLinkLoss port s := by
    rw [silenceTimeoutStep, h, ← linkDown_eq_afterLinkLoss]
  rw [← hstep]
  exact whenRunning_running _ hrunning

/-! ### The receive checks (R137) -/

/-- The words between a START and an END carry a frame exactly where the coded length fits them and the CRC is theirs. -/
theorem readFrame_eq (h0 h1 : Word) (payload : List Word) (check : Word) :
    readFrame (h0 :: h1 :: (payload ++ [check])) =
      if payload.length = codedLength h0 h1 ∧ codedLength h0 h1 ≤ 64 ∧ crc (h0 :: h1 :: payload) = check then
        some { kind := h0.extractLsb' 12 4, address := h0.extractLsb' 6 6
               extension := h1.extractLsb' 1 15, payload := payload }
      else none := by
  unfold readFrame
  dsimp only
  by_cases hlength : payload.length = codedLength h0 h1
  · rw [← hlength, List.drop_left, List.take_left]
    simp only [true_and]
  · rw [if_neg fun h => hlength h.1]
    split
    · rename_i hdrop
      have hlast := congrArg List.length hdrop
      rw [List.length_drop, List.length_append, List.length_singleton, List.length_singleton] at hlast
      omega
    · rfl

theorem readFrame_short {words : List Word} (h : words.length < 3) : readFrame words = none := by
  match words, h with
  | [], _ => rfl
  | [_], _ => rfl
  | [h0, h1], _ => simp [readFrame]

theorem readReception_of_readFrame {r : Reception} (h : readFrame r.words = none) : readReception r = none := by
  unfold readReception
  split
  · exact h
  · rfl

/-- Settles O10, by the lengths of the words and of the payload that they code. -/
theorem receptionChecks : Obligations.ReceptionChecks := by
  intro r
  refine ⟨readReception_of_early, fun hshort => readReception_of_readFrame (readFrame_short hshort), fun hlong => ?long,
    fun h0 h1 payload check hwords => ?words⟩
  case long =>
    refine readReception_of_readFrame ?_
    match hwords : r.words, hlong with
    | h0 :: h1 :: w :: rest, hlong =>
      rw [← List.dropLast_append_getLast (List.cons_ne_nil w rest), readFrame_eq, if_neg]
      rintro ⟨hlength, hcapacity, -⟩
      rw [← hlength, List.length_dropLast] at hcapacity
      simp only [List.length_cons] at hlong hcapacity
      omega
  case words =>
    have hnone : ¬ (payload.length = codedLength h0 h1 ∧ codedLength h0 h1 ≤ 64 ∧ crc (h0 :: h1 :: payload) = check) →
        readReception r = none := by
      intro hnot
      exact readReception_of_readFrame (by rw [hwords, readFrame_eq, if_neg hnot])
    refine ⟨fun hlong => hnone ?_, fun hlength => hnone ?_, fun hcheck => hnone ?_, fun hend hcapacity hlength hcheck => ?_⟩
    · exact fun h => absurd h.2.1 (not_le.mpr hlong)
    · exact fun h => hlength h.1
    · exact fun h => hcheck h.2.2
    · rw [readReception, hend]
      dsimp only
      rw [hwords, readFrame_eq, if_pos ⟨hlength, hcapacity, hcheck⟩]

end Sys2Proof.Machine

/-! Frames that pass, transmissions, and the store at a full house (§5.3, §5.5, §8.1 to §8.3). -/

namespace Sys2Proof.Machine

set_option Elab.async false

open Sys2Proof.Safety

variable {s : State}

/-! ### Flags -/

theorem raiseFlag_of_set {f : Flag} (h : hasFlag s.flags f = true) : raiseFlag f s = s := if_pos h

theorem raiseFlag_of_clear {f : Flag} (h : hasFlag s.flags f = false) :
    raiseFlag f s =
      if hasFlag s.noticeMask f = true then offerNotice f { s with flags := withFlag s.flags f }
      else { s with flags := withFlag s.flags f } := by
  rw [raiseFlag, if_neg (Bool.eq_false_iff.mp h)]

theorem offerNotice_of_room {f : Flag} (h : s.store.length < 64) : offerNotice f s = appendRecord (.notice f) s := if_pos h

theorem offerNotice_of_full {f : Flag} (h : 64 ≤ s.store.length) :
    offerNotice f s = { s with owedNotices := withFlag s.owedNotices f } := if_neg (not_lt.mpr h)

/-- Settles O11. -/
theorem flagSettingOffersNotice : Obligations.FlagSettingOffersNotice := by
  intro f s
  refine ⟨raiseFlag_of_set, fun hclear => ?_⟩
  rw [raiseFlag_of_clear hclear]
  refine ⟨fun hmask => if_neg (Bool.eq_false_iff.mp hmask), fun hmask hroom => ?_, fun hmask hfull => ?_⟩
  · rw [if_pos hmask]
    exact offerNotice_of_room (s := { s with flags := withFlag s.flags f }) hroom
  · rw [if_pos hmask]
    exact offerNotice_of_full (s := { s with flags := withFlag s.flags f }) hfull

/-! ### Frames passed on -/

theorem forwarded_of_room {f : Frame} (h : s.forwardQueue.length < 8) :
    forwarded f s = { s with forwardQueue := s.forwardQueue ++ [f] } := if_pos h

theorem forwarded_of_full {f : Frame} (h : 8 ≤ s.forwardQueue.length) : forwarded f s = raiseFlag .fwdLossC s :=
  if_neg (not_lt.mpr h)

/-- The cases of what a frame handed to the return queue leaves. -/
theorem passedOn_of_full {f : Frame} (h : 8 ≤ s.returnQueue.length) : passedOn f s = raiseFlag .fwdLossS s := if_pos h

theorem passedOn_of_empty {f : Frame} (hup : isUp s.sLink) (hidle : s.sTransmission = none) (hqueue : s.returnQueue = []) :
    passedOn f s = { s with sTransmission := some f } := by
  rw [passedOn, if_neg (by rw [hqueue]; decide), if_pos ⟨hup, hidle⟩, hqueue]

theorem passedOn_of_oldest {f oldest : Frame} {rest : List Frame} (hup : isUp s.sLink) (hidle : s.sTransmission = none)
    (hqueue : s.returnQueue = oldest :: rest) (hroom : s.returnQueue.length < 8) :
    passedOn f s = { s with sTransmission := some oldest, returnQueue := rest ++ [f] } := by
  rw [passedOn, if_neg (not_le.mpr hroom), if_pos ⟨hup, hidle⟩, hqueue]

theorem passedOn_of_busy {f : Frame} (hbusy : ¬ isUp s.sLink ∨ s.sTransmission ≠ none) (hroom : s.returnQueue.length < 8) :
    passedOn f s = { s with returnQueue := s.returnQueue ++ [f] } := by
  rw [passedOn, if_neg (not_le.mpr hroom), if_neg]
  exact fun h => hbusy.elim (fun hdown => hdown h.1) fun hbusy => hbusy h.2

/-- Equal effects, closed by the grant due, are equal outcomes. -/
theorem next_grant {t u : State} (h : t = u) :
    (.next (grantStep t) : Host.Outcome State Fault Refusal) = .next (grantStep u) := by rw [h]

/-- A frame that an UP port accepts is routed, with the port's fault count at 0. -/
theorem exec_forwardUnchanged {port : Port} {f : Frame} (hreceives : Receives port s) (haccepted : frameAccepted port f = true) :
    exec (.forwardUnchanged port f) s = .next (grantStep (dispatchFrame port f (setLink port (.up 0 false) s))) := by
  obtain ⟨n, a, hlink⟩ := up_of_receives hreceives
  have hexec : exec (.forwardUnchanged port f) s = whenRunning (receiveFrame port (frameAccepted port f) (dispatchFrame port f)) s := rfl
  rw [hexec, whenRunning_running _ hreceives.1, haccepted, receiveFrame_accepted _ hlink]

theorem dispatchFromS_unchanged {f : Frame} (h : f.kind ≠ 1) : dispatchFrame .s f s = forwarded f s := by
  rw [dispatchFrame, dispatchFromS, if_neg (show ¬ f.kind = kindSample from h), placeForward_eq_forwarded]

theorem dispatchFromC_unchanged {f : Frame} (h : f.kind ∉ [8, 9, 10, 11]) : dispatchFrame .c f s = passedOn f s := by
  simp only [List.mem_cons, List.not_mem_nil, or_false, not_or] at h
  obtain ⟨hack, hrequest, henum, hreset⟩ := h
  rw [dispatchFrame, dispatchFromC, if_neg (show ¬ f.kind = kindAck from hack),
    if_neg (show ¬ f.kind = kindRequest from hrequest), if_neg (show ¬ f.kind = kindEnum from henum),
    if_neg (show ¬ f.kind = kindReset from hreset), placeReturn_eq_passedOn]

/-- Settles O12, by the queue that the frame joins. -/
theorem frameJoinsOppositeQueue : Obligations.FrameJoinsOppositeQueue := by
  refine ⟨fun f s hreceives haccepted hkind => ?toC, fun f s hreceives haccepted hkind => ?toS⟩
  case toC =>
    rw [exec_forwardUnchanged hreceives haccepted, dispatchFromS_unchanged hkind]
    exact ⟨fun hroom => next_grant (forwarded_of_room hroom),
      fun hfull => next_grant (forwarded_of_full hfull)⟩
  case toS =>
    rw [exec_forwardUnchanged hreceives haccepted, dispatchFromC_unchanged hkind]
    exact ⟨fun hup hidle hqueue => next_grant (passedOn_of_empty hup hidle hqueue),
      fun oldest rest hup hidle hqueue hroom =>
        next_grant (passedOn_of_oldest hup hidle hqueue hroom),
      fun hbusy hroom => next_grant (passedOn_of_busy hbusy hroom),
      fun hfull => next_grant (passedOn_of_full hfull)⟩

/-! ### Transmissions -/

theorem startSTransmission_of_due {f : Frame} {rest : List Frame} (hup : isUp s.sLink) (hidle : s.sTransmission = none)
    (hqueue : s.returnQueue = f :: rest) :
    startSTransmission s = { s with sTransmission := some f, returnQueue := rest } := by
  obtain ⟨n, a, hlink⟩ := isUp_iff.mp hup
  exact startSTransmission_of_frame hlink hidle hqueue

theorem startSTransmission_of_not_due (h : ¬ isUp s.sLink ∨ s.sTransmission ≠ none ∨ s.returnQueue = []) :
    startSTransmission s = s :=
  startSTransmission_of_none (h.imp_left fun hdown n a hlink => hdown (isUp_iff.mpr ⟨n, a, hlink⟩))

theorem completeStep_s_none (h : s.sTransmission = none) : completeStep .s s = s := by rw [completeStep, h]

theorem completeStep_s_some (h : s.sTransmission ≠ none) :
    completeStep .s s = startSTransmission { s with sTransmission := none } := by
  obtain ⟨f, hf⟩ := Option.ne_none_iff_exists'.mp h
  rw [completeStep, hf]

theorem completeStep_c_event {f : Frame} {sequences : List (BitVec 16)} (h : s.cTransmission = some (.event f sequences)) :
    completeStep .c s =
      { s with
        cTransmission := none
        ackTimer := if s.reporter = .awaiting ∧ s.ackTimer = none then some s.ackTimeout else s.ackTimer } := by
  rw [completeStep, h]
  dsimp only
  unfold eventCompleted
  split
  · rename_i hawaiting hstopped
    dsimp only at hawaiting hstopped
    rw [if_pos ⟨hawaiting, hstopped⟩]
  · rename_i hother
    rw [if_neg fun h => hother h.1 h.2]

/-- Settles O26, by the port and by what it transmits. -/
theorem transmissionsBeginAndComplete : Obligations.TransmissionsBeginAndComplete := by
  intro s hrunning
  have hstart : exec .sPortTransmitStart s = .next (grantStep (startSTransmission s)) := whenRunning_running _ hrunning
  have hcomplete : ∀ port, exec (.transmissionComplete port) s = .next (grantStep (completeStep port s)) := fun _ =>
    whenRunning_running _ hrunning
  rw [hstart, hcomplete, hcomplete]
  refine ⟨fun f rest hup hidle hqueue => ?due, fun hnot => ?notDue, fun hnone => ?sNothing, fun hsome => ?sCompletes,
    fun hnone => ?cNothing, fun f hsome => ?cCompletes, fun f sequences hevent => ?eventCompletes⟩
  case due => rw [startSTransmission_of_due hup hidle hqueue]
  case notDue => rw [startSTransmission_of_not_due hnot]
  case sNothing => rw [completeStep_s_none hnone]
  case sCompletes =>
    rw [completeStep_s_some hsome]
    refine ⟨fun f rest hup hqueue => ?_, fun hnot => ?_⟩
    · rw [startSTransmission_of_due (s := { s with sTransmission := none }) hup rfl hqueue]
    · rw [startSTransmission_of_not_due (s := { s with sTransmission := none }) (hnot.imp_right .inr)]
  case cNothing =>
    rw [completeStep, hnone]
    dsimp only
    rw [← hnone]
  case cCompletes => rcases hsome with hsome | hsome <;> rw [completeStep, hsome]
  case eventCompletes => rw [completeStep_c_event hevent]

/-! ### Failed insertions -/

theorem failedInsertion_of_lookup {i : Fin 256} {b : Binding} (h : s.bindings.lookup i = some b) :
    failedInsertion i s = raiseFlag .eventLoss { s with bindings := s.bindings.put i { b with resync := true } } := by
  rw [failedInsertion, h]
  rfl

theorem offerRecord_settled_full (hfull : 64 ≤ s.store.length) (subject : Subject) (zone : Nat) (value : Option Word)
    (reason : Reason) : offerRecord (.settled subject zone value reason) s = failedInsertion subject.index s :=
  if_neg (not_lt.mpr hfull)

theorem offerRecord_stale_full (hfull : 64 ≤ s.store.length) (subject : Subject) (zone : Option Nat) :
    offerRecord (.stale subject zone) s = failedInsertion subject.index s := if_neg (not_lt.mpr hfull)

theorem offerRecord_of_unmerged {subject : Subject} {toZone : Nat} {value : Word} (fromZone : Nat) (hfull : 64 ≤ s.store.length)
    (h : mergeIntoStore subject.index toZone value s = none) :
    offerRecord (.transition subject fromZone toZone value) s = failedInsertion subject.index s := by
  have hroom : ¬ s.store.length < Config.storeCapacity := not_lt.mpr hfull
  simp only [offerRecord, if_neg hroom, h]

/-- R96: no UNSENT record of the binding, no merge target. -/
theorem mergeIntoStore_of_no_unsent {i : Fin 256} (toZone : Nat) (value : Word) (h : ∀ r ∈ s.store, ¬ unsentOf i r = true) :
    mergeIntoStore i toZone value s = none := by
  have hnone := mergeNewest_append toZone value s.tickCount [] fun r hr => h r (List.mem_reverse.mp hr)
  rw [List.append_nil] at hnone
  rw [mergeIntoStore, hnone, mergeNewest, Option.map_none, Option.map_none, ite_self]

/-- R96: where the newest UNSENT record of the binding is no transition record, the search ends without a target. -/
theorem mergeIntoStore_of_other {i : Fin 256} {older newer : List Record} {newest : Record} (toZone : Nat) (value : Word)
    (hstore : s.store = older ++ newest :: newer) (hnewest : unsentOf i newest = true)
    (hnewer : ∀ r ∈ newer, ¬ unsentOf i r = true) (hbody : ∀ own a z v, newest.body ≠ .transition own a z v) :
    mergeIntoStore i toZone value s = none := by
  have hreverse : s.store.reverse = newer.reverse ++ newest :: older.reverse := by simp [hstore]
  have hstops : mergeNewest i toZone value s.tickCount (newest :: older.reverse) = none := by
    rw [mergeNewest, if_pos hnewest]
    split
    · rename_i own a z v hnewestBody
      exact absurd hnewestBody (hbody own a z v)
    · rfl
  rw [mergeIntoStore, hreverse, mergeNewest_append _ _ _ _ fun r hr => hnewer r (List.mem_reverse.mp hr), hstops]
  exact ite_self _

/-- Settles O20: each record that the full store neither takes nor merges ends in the failed insertion of its binding. -/
theorem fullStoreFailsInsertion : Obligations.FullStoreFailsInsertion := by
  intro s subject b hfull hlookup
  rw [← failedInsertion_of_lookup hlookup]
  refine ⟨offerRecord_settled_full hfull subject, offerRecord_stale_full hfull subject, fun fromZone toZone value hmark => ?marked,
    fun fromZone toZone value hnone => ?noTarget,
    fun fromZone toZone value older newest newer hstore hnewest hnewer hbody => ?other⟩
  case marked =>
    refine offerRecord_of_unmerged fromZone hfull ?_
    rw [mergeIntoStore, resyncPending_of_lookup hlookup, if_pos hmark]
  case noTarget =>
    refine offerRecord_of_unmerged fromZone hfull (mergeIntoStore_of_no_unsent _ _ fun r hr hunsent => ?_)
    exact hnone r hr (unsentOf_iff.mp hunsent)
  case other =>
    refine offerRecord_of_unmerged fromZone hfull (mergeIntoStore_of_other _ _ hstore (unsentOf_iff.mpr hnewest)
      (fun r hr hunsent => hnewer r hr (unsentOf_iff.mp hunsent)) fun own a z v htransition => ?_)
    rw [htransition] at hbody
    rcases hbody with ⟨_, _, _, _, h⟩ | ⟨_, _, h⟩ <;> cases h

end Sys2Proof.Machine

/-! The time base, the silence watch and the acknowledgement timer (chapter 4, §6.5). A tick's decrement pass is followed
entry by entry: the entries that it has passed stand in front, those it has not reached behind them. -/

namespace Sys2Proof.Machine

set_option Elab.async false

open Sys2Proof.Safety

variable {s : State}

/-! ### The acknowledgement timer -/

theorem expireAckTimer_retry (h : s.retryCount < s.retryLimit) :
    expireAckTimer s =
      { s with store := s.store.map sentToResend, ackTimer := none, retryCount := s.retryCount + 1 } := if_pos h

theorem expireAckTimer_stall (h : s.retryCount = s.retryLimit) :
    expireAckTimer s = { s with store := s.store.map sentToResend, ackTimer := none, reporter := .stalled } :=
  if_neg (by omega)

theorem engineTick_stopped (h : s.ackTimer = none) : engineTick s = s := by rw [engineTick, h]

theorem engineTick_runs {n : Nat} (hn : 2 ≤ n) (h : s.ackTimer = some n) :
    engineTick s = { s with ackTimer := some (n - 1) } := by
  rw [engineTick, h]
  exact if_neg (by omega)

theorem engineTick_expires (h : s.ackTimer = some 1) : engineTick s = expireAckTimer s := by rw [engineTick, h]; rfl

theorem ackTimerExpiryStep_due (h : s.ackTimer = some 1) : ackTimerExpiryStep s = expireAckTimer s := by
  rw [ackTimerExpiryStep, h]
  rfl

theorem ackTimerExpiryStep_not_due (h : s.ackTimer = none ∨ ∃ n, 2 ≤ n ∧ s.ackTimer = some n) : ackTimerExpiryStep s = s := by
  rcases h with h | ⟨n, hn, h⟩
  · rw [ackTimerExpiryStep, h]
  · rw [ackTimerExpiryStep, h]
    exact if_neg (by omega)

/-- Settles O30, by the timer and the retry count. -/
theorem ackTimerExpiryResendsOrStalls : Obligations.AckTimerExpiryResendsOrStalls := by
  intro s hrunning
  have hexec : exec .ackTimerExpiry s = .next (grantStep (ackTimerExpiryStep s)) := whenRunning_running _ hrunning
  rw [hexec]
  refine ⟨fun hdue => ⟨fun hretry => ?_, fun hlimit => ?_⟩, fun hnot => ?_⟩
  · rw [ackTimerExpiryStep_due hdue, expireAckTimer_retry hretry]
    rfl
  · rw [ackTimerExpiryStep_due hdue, expireAckTimer_stall hlimit]
    rfl
  · rw [ackTimerExpiryStep_not_due hnot]

/-! ### A tick outside FILTERING -/

theorem tickStep_outside (h : s.mode ≠ .filtering) : tickStep s = engineTick (advanceTime s) := by
  cases hm : s.mode with
  | filtering => exact absurd hm h
  | unaddressed => simp only [tickStep, advanceTime_mode, hm]
  | transparent => simp only [tickStep, advanceTime_mode, hm]

/-- Settles O27, by the timer and the retry count. -/
theorem tickOutsideFiltering : Obligations.TickOutsideFiltering := by
  intro s hrunning hmode
  have hexec : exec .tick s = .next (grantStep (tickStep s)) := whenRunning_running _ hrunning
  rw [hexec, tickStep_outside hmode]
  refine ⟨fun hstopped => ?_, fun n hn hruns => ?_, fun hdue hretry => ?_, fun hdue hlimit => ?_⟩
  · exact next_grant (engineTick_stopped (s := advanceTime s) hstopped)
  · exact next_grant (engineTick_runs (s := advanceTime s) hn hruns)
  · rw [engineTick_expires (s := advanceTime s) hdue, expireAckTimer_retry (s := advanceTime s) hretry]
    rfl
  · rw [engineTick_expires (s := advanceTime s) hdue, expireAckTimer_stall (s := advanceTime s) hlimit]
    rfl

/-! ### A silence expiry -/

theorem Table.put_put {n : Nat} {α : Type} (t : Table n α) (i : Fin n) (a b : α) : (t.put i a).put i b = t.put i b := by
  induction t with
  | nil => simp [Table.put]
  | cons e rest ih =>
    obtain ⟨j, x⟩ := e
    by_cases hlt : i < j
    · simp [Table.put, hlt]
    · by_cases heq : j = i
      · simp [Table.put, heq]
      · simp [Table.put, hlt, heq, ih]

/-- A failed insertion of a binding that was written marks the written binding. -/
theorem failedInsertion_setBinding (i : Fin 256) (b : Binding) (s : State) :
    failedInsertion i (setBinding i b s) = raiseFlag .eventLoss (setBinding i { b with resync := true } s) := by
  rw [failedInsertion_of_lookup (Table.lookup_put_self _ _ _), setBinding_bindings, Table.put_put]
  rfl

theorem countsDown_iff {b : Binding} : countsDown b = true ↔ b.limit ≠ 0 ∧ trackingCode b.track ≠ 2 := by
  rw [countsDown, Bool.and_eq_true, bne_iff_ne]
  cases b.track <;> simp [trackingCode]

theorem expireBinding_quiet {i : Fin 256} {b : Binding} (h : b.report = false) :
    expireBinding i b s = { s with bindings := s.bindings.put i (expiredBinding b) } :=
  if_neg (Bool.eq_false_iff.mp h)

theorem expireBinding_of_room {i : Fin 256} {b : Binding} (h : b.report = true) (hroom : s.store.length < 64) :
    expireBinding i b s =
      { s with
        bindings := s.bindings.put i (expiredBinding b)
        store := withRecord (.stale (subjectOf i b) (trackingZone b.track)) s } := by
  rw [expireBinding, if_pos h, offerRecord_of_room _ (by exact hroom)]
  rfl

theorem expireBinding_of_full {i : Fin 256} {b : Binding} (h : b.report = true) (hfull : 64 ≤ s.store.length) :
    expireBinding i b s =
      raiseFlag .eventLoss { s with bindings := s.bindings.put i { expiredBinding b with resync := true } } := by
  rw [expireBinding, if_pos h, offerRecord_stale_full (by exact hfull)]
  exact failedInsertion_setBinding i (expiredBinding b) s

theorem silenceExpiryStep_due {i : Fin 256} {b : Binding} (hlookup : s.bindings.lookup i = some b)
    (hmode : s.mode = .filtering) (hcounts : countsDown b = true) (hdue : b.countdown ≤ 1) :
    silenceExpiryStep i s = expireBinding i b s := by
  simp only [silenceExpiryStep, hmode, hlookup, hcounts, decide_eq_true hdue, Bool.and_self, if_true]

theorem silenceExpiryStep_not_due {i : Fin 256} {b : Binding} (hlookup : s.bindings.lookup i = some b)
    (h : s.mode ≠ .filtering ∨ countsDown b = false ∨ 1 < b.countdown) : silenceExpiryStep i s = s := by
  unfold silenceExpiryStep
  split
  · rename_i b' hmode hlookup'
    obtain rfl := Option.some.inj (hlookup.symm.trans hlookup')
    rcases h with h | h | h
    · exact absurd hmode h
    · simp [h]
    · simp [Nat.not_le.mpr h]
  · rfl

/-- Settles O29, by report enable and the store. -/
theorem silenceExpiryMakesStale : Obligations.SilenceExpiryMakesStale := by
  intro i b s hrunning hlookup
  have hexec : exec (.silenceExpiry i) s = .next (grantStep (silenceExpiryStep i s)) := whenRunning_running _ hrunning
  rw [hexec]
  refine ⟨fun hmode hlimit htrack hdue => ?due, fun hnot => ?notDue⟩
  case due =>
    rw [silenceExpiryStep_due hlookup hmode (countsDown_iff.mpr ⟨hlimit, htrack⟩) hdue.le]
    exact ⟨fun hquiet => next_grant (expireBinding_quiet hquiet),
      fun hreport hroom => next_grant (expireBinding_of_room hreport hroom),
      fun hreport hfull => next_grant (expireBinding_of_full hreport hfull)⟩
  case notDue =>
    rw [silenceExpiryStep_not_due hlookup]
    have hcounts : b.limit = 0 ∨ trackingCode b.track = 2 → countsDown b = false := fun h =>
      Bool.eq_false_iff.mpr fun hc => by have := countsDown_iff.mp hc; tauto
    tauto

end Sys2Proof.Machine

/-! The decrement pass of a tick in FILTERING (§4.4, §4.5, §5.3). The pass is followed entry by entry: the entries that it has
passed stand in front, those it has not reached behind them. -/

namespace Sys2Proof.Machine

set_option Elab.async false

open Sys2Proof.Safety

variable {s : State}

/-! ### An entry in its place -/

section

variable {n : Nat} {α : Type} {front rest : Table n α} {i : Fin n} {a : α}

theorem Table.lookup_at_place (hwf : Table.wf (front ++ (i, a) :: rest)) : Table.lookup (front ++ (i, a) :: rest) i = some a :=
  Table.lookup_of_mem hwf (by simp)

theorem Table.put_at_place (hwf : Table.wf (front ++ (i, a) :: rest)) (b : α) :
    Table.put (front ++ (i, a) :: rest) i b = front ++ (i, b) :: rest := by
  induction front with
  | nil => simp [Table.put]
  | cons e front ih =>
    obtain ⟨j, x⟩ := e
    rw [Table.wf, List.cons_append, List.map_cons, List.pairwise_cons] at hwf
    obtain ⟨hhead, htail⟩ := hwf
    have hlt : j < i := hhead i (by simp)
    rw [List.cons_append, Table.put, if_neg hlt.le.not_gt, if_neg hlt.ne, ih htail, List.cons_append]

theorem Table.wf_at_place (hwf : Table.wf (front ++ (i, a) :: rest)) (b : α) : Table.wf (front ++ (i, b) :: rest) := by
  simpa [Table.wf] using hwf

theorem Table.lt_of_place (hwf : Table.wf (front ++ (i, a) :: rest)) {e : Fin n × α} (he : e ∈ rest) : i < e.1 := by
  rw [Table.wf, List.map_append, List.pairwise_append] at hwf
  exact (List.pairwise_cons.mp hwf.2.1).1 e.1 (List.mem_map_of_mem he)

end

/-! ### A flag is set once -/

theorem flagWeight_getLsbD (f g : Flag) : (flagWeight f).getLsbD (flagCode g) = decide (f = g) := by
  cases f <;> cases g <;> rfl

theorem hasFlag_withFlag (bits : BitVec 9) (f g : Flag) : hasFlag (withFlag bits f) g = (hasFlag bits g || decide (f = g)) := by
  rw [hasFlag, withFlag, BitVec.getLsbD_or, flagWeight_getLsbD, hasFlag]

theorem raiseFlag_flags (f : Flag) (s : State) : hasFlag (raiseFlag f s).flags f = true := by
  by_cases hset : hasFlag s.flags f = true
  · rw [raiseFlag_of_set hset, hset]
  · rcases raiseFlag_cases f s with h | h | ⟨-, h⟩ | ⟨-, h⟩
    · rw [raiseFlag, if_neg hset] at h
      have hflags : s.flags = withFlag s.flags f := by
        conv_lhs => rw [← h]
        unfold offerNotice appendRecord
        repeat' split
        all_goals rfl
      rw [hflags, hasFlag_withFlag, decide_eq_true rfl, Bool.or_true] at hset
      exact absurd rfl hset
    all_goals rw [h, hasFlag_withFlag, decide_eq_true rfl, Bool.or_true]

theorem raiseFlag_raiseFlag (f : Flag) (s : State) : raiseFlag f (raiseFlag f s) = raiseFlag f s :=
  raiseFlag_of_set (raiseFlag_flags f s)

/-- Setting a flag reads no binding. -/
theorem raiseFlag_with_bindings (f : Flag) (table : Table 256 Binding) (s : State) :
    raiseFlag f { s with bindings := table } = { raiseFlag f s with bindings := table } := by
  unfold raiseFlag offerNotice
  repeat' split
  all_goals rfl

theorem raiseFlag_store_of_full (f : Flag) (hfull : 64 ≤ s.store.length) : (raiseFlag f s).store = s.store :=
  (raiseFlag_store f s).resolve_right fun h => absurd h.1 (not_lt.mpr hfull)

/-! ### What the pass makes of an entry -/

/-- A binding whose countdown the pass takes to 0. -/
abbrev Expires (b : Binding) : Prop := (b.limit ≠ 0 ∧ trackingCode b.track ≠ 2) ∧ b.countdown ≤ 1

/-- Whether an entry's expiry offers a record. -/
def reportsExpiry (e : Fin 256 × Binding) : Bool := decide (Expires e.2) && e.2.report

/-- An entry after the pass, given the entries whose records a full store lost. -/
def afterPass (lost : Table 256 Binding) (e : Fin 256 × Binding) : Fin 256 × Binding :=
  (e.1,
    if Expires e.2 then
      { e.2 with
        track := .stale (trackingZone e.2.track), reason := .fresh, countdown := 0
        resync := e.2.resync || lost.any fun l => l.1 = e.1 }
    else if e.2.limit ≠ 0 ∧ trackingCode e.2.track ≠ 2 then { e.2 with countdown := e.2.countdown - 1 }
    else e.2)

/-- The STALE record of an entry's expiry. -/
def expiryRecord (now : BitVec 32) (e : Fin 256 × Binding) : Record :=
  { body := .stale { index := e.1, source := e.2.source, channel := e.2.channel } (trackingZone e.2.track)
    delivery := .unsent, mergeCount := 1, timestamp := now }

theorem afterPass_of_not_lost {lost : Table 256 Binding} {e : Fin 256 × Binding} (h : ∀ l ∈ lost, l.1 ≠ e.1) :
    afterPass lost e = afterPass [] e := by
  have hany : (lost.any fun l => decide (l.1 = e.1)) = false := by simpa using h
  simp only [afterPass, hany, List.any_nil]

theorem afterPass_of_lost {lost : Table 256 Binding} {e : Fin 256 × Binding} (h : e ∈ lost) (hexpires : Expires e.2) :
    afterPass lost e = (e.1, { expiredBinding e.2 with resync := true }) := by
  have hany : (lost.any fun l => decide (l.1 = e.1)) = true := List.any_eq_true.mpr ⟨e, h, by simp⟩
  simp only [afterPass, if_pos hexpires, hany, Bool.or_true]
  rfl

theorem afterPass_of_expires {e : Fin 256 × Binding} (hexpires : Expires e.2) : afterPass [] e = (e.1, expiredBinding e.2) := by
  simp only [afterPass, if_pos hexpires, List.any_nil, Bool.or_false]
  rfl

section

variable {front rest : Table 256 Binding} {i : Fin 256} {b : Binding}

/-- The pass at an entry in its place. -/
theorem decrementEntry_at_place (hbindings : s.bindings = front ++ (i, b) :: rest) (hwf : s.bindings.wf) :
    decrementEntry s i =
      if countsDown b then
        if b.countdown ≤ 1 then expireBinding i b s else setBinding i { b with countdown := b.countdown - 1 } s
      else s := by
  rw [hbindings] at hwf
  rw [decrementEntry, hbindings, Table.lookup_at_place hwf]

theorem decrementEntry_expires (hbindings : s.bindings = front ++ (i, b) :: rest) (hwf : s.bindings.wf) (h : Expires b) :
    decrementEntry s i = expireBinding i b s := by
  rw [decrementEntry_at_place hbindings hwf, if_pos (countsDown_iff.mpr h.1), if_pos h.2]

/-- An entry that offers no record. -/
theorem decrementEntry_quiet (hbindings : s.bindings = front ++ (i, b) :: rest) (hwf : s.bindings.wf)
    (h : reportsExpiry (i, b) = false) :
    decrementEntry s i = { s with bindings := front ++ afterPass [] (i, b) :: rest } := by
  have hput := fun b' => Table.put_at_place (hbindings ▸ hwf) b'
  by_cases hexpires : Expires b
  · have hreport : b.report = false := by simpa [reportsExpiry, hexpires] using h
    rw [decrementEntry_expires hbindings hwf hexpires, expireBinding_quiet hreport, hbindings, hput,
      afterPass_of_expires (e := (i, b)) hexpires]
  · rw [decrementEntry_at_place hbindings hwf]
    by_cases hcounts : b.limit ≠ 0 ∧ trackingCode b.track ≠ 2
    · rw [if_pos (countsDown_iff.mpr hcounts), if_neg fun hdue => hexpires ⟨hcounts, hdue⟩, setBinding, hbindings, hput]
      simp only [afterPass, if_neg hexpires, if_pos hcounts]
    · rw [if_neg fun hc => hcounts (countsDown_iff.mp hc)]
      simp only [afterPass, if_neg hexpires, if_neg hcounts]
      rw [← hbindings]

theorem expires_of_reports (h : reportsExpiry (i, b) = true) : Expires b ∧ b.report = true := by
  simpa only [reportsExpiry, Bool.and_eq_true, decide_eq_true_eq] using h

theorem decrementEntry_reports_of_room (hbindings : s.bindings = front ++ (i, b) :: rest) (hwf : s.bindings.wf)
    (h : reportsExpiry (i, b) = true) (hroom : s.store.length < 64) :
    decrementEntry s i =
      { s with
        bindings := front ++ afterPass [] (i, b) :: rest
        store := s.store ++ [expiryRecord s.tickCount (i, b)] } := by
  obtain ⟨hexpires, hreport⟩ := expires_of_reports h
  rw [decrementEntry_expires hbindings hwf hexpires, expireBinding_of_room hreport hroom, hbindings,
    Table.put_at_place (hbindings ▸ hwf), afterPass_of_expires (e := (i, b)) hexpires]
  rfl

theorem decrementEntry_reports_of_full (hbindings : s.bindings = front ++ (i, b) :: rest) (hwf : s.bindings.wf)
    (h : reportsExpiry (i, b) = true) (hfull : 64 ≤ s.store.length) :
    decrementEntry s i =
      raiseFlag .eventLoss { s with bindings := front ++ (i, { expiredBinding b with resync := true }) :: rest } := by
  obtain ⟨hexpires, hreport⟩ := expires_of_reports h
  rw [decrementEntry_expires hbindings hwf hexpires, expireBinding_of_full hreport hfull, hbindings,
    Table.put_at_place (hbindings ▸ hwf)]

end

/-! ### The pass -/

/-- The entries not yet reached whose records the store takes no more. -/
def lostExpiries (rest : Table 256 Binding) (s : State) : Table 256 Binding :=
  (rest.filter reportsExpiry).drop (64 - s.store.length)

/-- The state after the pass over the entries not yet reached, the flag of the loss aside. -/
def countedDown (front rest : Table 256 Binding) (s : State) : State :=
  { s with
    bindings := front ++ rest.map (afterPass (lostExpiries rest s))
    store := s.store ++ ((rest.filter reportsExpiry).take (64 - s.store.length)).map (expiryRecord s.tickCount) }

/-- The state after the pass over the entries not yet reached. -/
def passedOver (front rest : Table 256 Binding) (s : State) : State :=
  if lostExpiries rest s = [] then countedDown front rest s else raiseFlag .eventLoss (countedDown front rest s)

theorem passedOver_congr {front front' rest rest' : Table 256 Binding} {t : State}
    (hlost : lostExpiries rest s = lostExpiries rest' t) (hcounted : countedDown front rest s = countedDown front' rest' t) :
    passedOver front rest s = passedOver front' rest' t := by rw [passedOver, passedOver, hlost, hcounted]

theorem lostExpiries_subset {rest : Table 256 Binding} {e : Fin 256 × Binding} (h : e ∈ lostExpiries rest s) : e ∈ rest :=
  List.mem_of_mem_filter (List.mem_of_mem_drop h)

/-- Once the store is full the pass writes bindings alone, so that the flag may be set at the first loss or at the end. -/
theorem countedDown_raiseFlag {front rest : Table 256 Binding} {i : Fin 256} {b : Binding} (hfull : 64 ≤ s.store.length)
    (hplace : Table.wf (front ++ (i, b) :: rest)) (hreports : reportsExpiry (i, b) = true)
    (hlost : lostExpiries ((i, b) :: rest) s = (i, b) :: rest.filter reportsExpiry) :
    countedDown (front ++ [(i, { expiredBinding b with resync := true })]) rest
        (raiseFlag .eventLoss { s with bindings := front ++ (i, { expiredBinding b with resync := true }) :: rest }) =
      raiseFlag .eventLoss (countedDown front ((i, b) :: rest) s) := by
  have hplaces : 64 - s.store.length = 0 := by omega
  have hstore : (raiseFlag .eventLoss s).store = s.store := raiseFlag_store_of_full _ hfull
  have hhead : afterPass ((i, b) :: rest.filter reportsExpiry) (i, b) = (i, { expiredBinding b with resync := true }) :=
    afterPass_of_lost List.mem_cons_self (expires_of_reports hreports).1
  have hrest : rest.map (afterPass ((i, b) :: rest.filter reportsExpiry)) =
      rest.map (afterPass (rest.filter reportsExpiry)) := by
    refine List.map_congr_left fun e he => ?_
    simp only [afterPass, List.any_cons, decide_eq_false (Table.lt_of_place hplace he).ne, Bool.false_or]
  have hcounted : countedDown front ((i, b) :: rest) s =
      { s with bindings := front ++ (i, { expiredBinding b with resync := true }) :: rest.map (afterPass (rest.filter reportsExpiry)) } := by
    simp only [countedDown, hlost, hplaces, List.take_zero, List.map_nil, List.append_nil, List.map_cons, hhead, hrest]
  rw [hcounted, raiseFlag_with_bindings .eventLoss (front ++ _ :: rest), raiseFlag_with_bindings .eventLoss (front ++ _ :: rest.map _)]
  simp only [countedDown, lostExpiries, hstore, hplaces, List.take_zero, List.map_nil, List.append_nil, List.drop_zero,
    List.append_assoc, List.singleton_append]

/-- The pass over the entries not yet reached, by the first of them. -/
theorem decrementEntries_foldl (front rest : Table 256 Binding) (s : State) (hbindings : s.bindings = front ++ rest)
    (hwf : s.bindings.wf) : (rest.map Prod.fst).foldl decrementEntry s = passedOver front rest s := by
  induction rest generalizing front s with
  | nil => simp [passedOver, lostExpiries, countedDown, ← hbindings]
  | cons e rest ih =>
    obtain ⟨i, b⟩ := e
    have hplace : Table.wf (front ++ (i, b) :: rest) := hbindings ▸ hwf
    have hnext : ∀ (b' : Binding) (t : State), t.bindings = front ++ (i, b') :: rest →
        (rest.map Prod.fst).foldl decrementEntry t = passedOver (front ++ [(i, b')]) rest t := fun b' t ht =>
      ih _ t (by rw [ht, List.append_assoc, List.singleton_append]) (ht ▸ Table.wf_at_place hplace b')
    have hapart : ∀ t : State, afterPass (lostExpiries rest t) (i, b) = afterPass [] (i, b) := fun t =>
      afterPass_of_not_lost fun l hl => (Table.lt_of_place hplace (lostExpiries_subset hl)).ne'
    rw [List.map_cons, List.foldl_cons]
    cases hreports : reportsExpiry (i, b) with
    | false =>
      have hfilter : ((i, b) :: rest).filter reportsExpiry = rest.filter reportsExpiry := by
        rw [List.filter_cons, hreports, if_neg Bool.false_ne_true]
      rw [decrementEntry_quiet hbindings hwf hreports, hnext _ _ rfl]
      refine passedOver_congr (by rw [lostExpiries, lostExpiries, hfilter]) ?_
      simp only [countedDown, hfilter, List.map_cons, List.append_assoc, List.singleton_append]
      rw [show lostExpiries ((i, b) :: rest) s = lostExpiries rest s by rw [lostExpiries, lostExpiries, hfilter], hapart s]
      rfl
    | true =>
      have hfilter : ((i, b) :: rest).filter reportsExpiry = (i, b) :: rest.filter reportsExpiry := by
        rw [List.filter_cons, hreports, if_pos rfl]
      rcases Nat.lt_or_ge s.store.length 64 with hroom | hfull
      · have hplaces : 64 - s.store.length = (64 - (s.store.length + 1)) + 1 := by omega
        rw [decrementEntry_reports_of_room hbindings hwf hreports hroom, hnext _ _ rfl]
        have hlost : lostExpiries ((i, b) :: rest) s =
            lostExpiries rest { s with
              bindings := front ++ afterPass [] (i, b) :: rest
              store := s.store ++ [expiryRecord s.tickCount (i, b)] } := by
          simp only [lostExpiries, hfilter, List.length_append, List.length_singleton]
          rw [hplaces, List.drop_succ_cons]
        refine passedOver_congr hlost.symm ?_
        simp only [countedDown, hfilter, List.map_cons, List.length_append, List.length_singleton]
        rw [hlost, hapart, hplaces, List.take_succ_cons]
        simp [afterPass]
      · have hplaces : 64 - s.store.length = 0 := by omega
        have hlost : lostExpiries ((i, b) :: rest) s = (i, b) :: rest.filter reportsExpiry := by
          rw [lostExpiries, hfilter, hplaces, List.drop_zero]
        have hcounted : countedDown (front ++ [(i, { expiredBinding b with resync := true })]) rest
            (raiseFlag .eventLoss
              { s with bindings := front ++ (i, { expiredBinding b with resync := true }) :: rest }) =
            raiseFlag .eventLoss (countedDown front ((i, b) :: rest) s) :=
          countedDown_raiseFlag hfull hplace hreports hlost
        rw [decrementEntry_reports_of_full hbindings hwf hreports hfull, hnext _ _ (raiseFlag_bindings _ _), passedOver,
          hcounted, raiseFlag_raiseFlag, ite_self, passedOver, hlost, if_neg (List.cons_ne_nil _ _)]

theorem decrementPass_eq (hwf : s.bindings.wf) : decrementPass s = passedOver [] s.bindings s :=
  decrementEntries_foldl [] s.bindings s rfl hwf

theorem tickStep_filtering (hmode : s.mode = .filtering) : tickStep s = engineTick (decrementPass (advanceTime s)) := by
  simp only [tickStep, advanceTime_mode, hmode]

section

variable (front rest : Table 256 Binding) (s : State)

/-- The pass leaves the engine's own fields alone. -/
theorem passedOver_engine :
    (passedOver front rest s).ackTimer = s.ackTimer ∧ (passedOver front rest s).retryCount = s.retryCount
      ∧ (passedOver front rest s).retryLimit = s.retryLimit := by
  unfold passedOver
  split
  · exact ⟨rfl, rfl, rfl⟩
  · exact ⟨raiseFlag_ackTimer _ _, raiseFlag_retryCount _ _, raiseFlag_retryLimit _ _⟩

end

/-- Settles O28: the pass by induction over the entries, then the timer and the retry count. -/
theorem tickDecrementPass : Obligations.TickDecrementPass := by
  intro s hrunning hmode hkeys
  have hexec : exec .tick s = .next (grantStep (engineTick (passedOver [] (advanceTime s).bindings (advanceTime s)))) := by
    rw [← decrementPass_eq (s := advanceTime s) hkeys.1, ← tickStep_filtering hmode]
    exact whenRunning_running _ hrunning
  obtain ⟨htimer, hcount, hlimit⟩ := passedOver_engine [] (advanceTime s).bindings (advanceTime s)
  rw [hexec]
  refine ⟨fun hstopped => ?_, fun n hn hruns => ?_, fun hdue hretry => ?_, fun hdue hatLimit => ?_⟩
  · rw [engineTick_stopped (htimer.trans hstopped)]
    rfl
  · rw [engineTick_runs hn (htimer.trans hruns)]
    rfl
  · rw [engineTick_expires (htimer.trans hdue), expireAckTimer_retry (by rw [hcount, hlimit]; exact hretry), hcount]
    rfl
  · rw [engineTick_expires (htimer.trans hdue), expireAckTimer_stall (by rw [hcount, hlimit]; exact hatLimit)]
    rfl

end Sys2Proof.Machine

/-! Acknowledgements (§6.4) and the resync pass (§5.4, §5.5). -/

namespace Sys2Proof.Machine

set_option Elab.async false

open Sys2Proof.Safety

variable {s : State}

/-! ### An ACK received -/

theorem exec_ack {a : BitVec 6} {ext : BitVec 15} {payload : List Word} (hreceives : Receives .c s) (hfits : payload.length ≤ 64) :
    exec (.ack a ext payload) s = .next (grantStep (routeAck a ext payload (setLink .c (.up 0 false) s))) := by
  obtain ⟨n, assembling, hlink⟩ := up_of_receives hreceives
  have hexec : exec (.ack a ext payload) s =
      whenRunning (receiveFrame .c (decide (payload.length ≤ 64)) (routeAck a ext payload)) s := rfl
  rw [hexec, whenRunning_running _ hreceives.1, decide_eq_true hfits, receiveFrame_accepted _ hlink]

theorem routeAck_own {ext : BitVec 15} {payload : List Word} (hmode : s.mode ≠ .unaddressed) :
    routeAck s.address ext payload s = takeAck payload s := if_pos ⟨hmode, rfl⟩

theorem routeAck_other {a : BitVec 6} {ext : BitVec 15} {payload : List Word} (h : s.mode = .unaddressed ∨ a ≠ s.address) :
    routeAck a ext payload s = passedOn { kind := 8, address := a, extension := ext, payload := payload } s := by
  rw [routeAck, if_neg (by tauto), placeReturn_eq_passedOn]
  rfl

theorem takeAck_malformed {payload : List Word} (h : payload.length ≠ 1) : takeAck payload s = raiseFlag .ackFault s := by
  unfold takeAck
  split
  · exact absurd rfl h
  · rfl

theorem oldestSequence_eq (h : NumberingLaw s) :
    oldestSequence s = s.nextSequence - BitVec.ofNat 16 (numberedCount s.store) := by
  have hhead : s.store.findSome? recordSequence = (sequencesBefore s.nextSequence (numberedCount s.store)).head? := by
    rw [← h.2, storeSequences, List.head?_filterMap]
  rw [oldestSequence, hhead]
  cases numberedCount s.store with
  | zero => simp [sequencesBefore]
  | succ m => simp [sequencesBefore, List.range_succ_eq_map]

theorem takeAck_single (e : Word) (h : NumberingLaw s) :
    takeAck [e] s =
      let d := (e - (s.nextSequence - BitVec.ofNat 16 (numberedCount s.store))).toNat
      if d = 0 then s else if d ≤ numberedCount s.store then acknowledge d s else raiseFlag .ackFault s := by
  rw [takeAck, ackDistance, oldestSequence_eq h]

/-- An ACK that names the record after the `d` oldest numbered ones. -/
theorem takeAck_valid {d : Nat} (h : NumberingLaw s) (hcapacity : s.store.length ≤ 64) (hd : 1 ≤ d)
    (hnumbered : d ≤ numberedCount s.store) :
    takeAck [s.nextSequence - BitVec.ofNat 16 (numberedCount s.store) + BitVec.ofNat 16 d] s = acknowledge d s := by
  have hcount : numberedCount s.store ≤ s.store.length := List.countP_le_length
  have hdistance : (s.nextSequence - BitVec.ofNat 16 (numberedCount s.store) + BitVec.ofNat 16 d
      - (s.nextSequence - BitVec.ofNat 16 (numberedCount s.store))).toNat = d := by
    rw [add_sub_cancel_left, BitVec.toNat_ofNat, Nat.mod_eq_of_lt (by omega)]
  rw [takeAck_single _ h]
  simp only [hdistance]
  rw [if_neg (by omega), if_pos hnumbered]

/-- Settles O22, by the address and the payload. -/
theorem otherAcksChangeNoRecord : Obligations.OtherAcksChangeNoRecord := by
  intro a ext payload s hreceives hfits
  rw [exec_ack hreceives hfits]
  refine ⟨fun hmode haddress => ?own, fun hother => next_grant (routeAck_other hother)⟩
  have hroute := routeAck_own (ext := ext) (payload := payload) (s := setLink .c (.up 0 false) s) hmode
  rw [haddress]
  refine ⟨fun hlength => next_grant (hroute.trans (takeAck_malformed hlength)), fun e he hnumbering hcapacity => ?_⟩
  subst he
  have htake := hroute.trans (takeAck_single e (s := setLink .c (.up 0 false) s) hnumbering)
  refine ⟨fun hfirst => next_grant (htake.trans ?_), fun houtside => next_grant (htake.trans ?_)⟩
  · rw [hfirst]
    exact if_pos (by simp)
  · have hd : ∀ d m : Nat, m < d → ¬ d = 0 ∧ ¬ d ≤ m := by omega
    obtain ⟨hzero, habove⟩ := hd _ _ houtside
    exact (if_neg hzero).trans (if_neg habove)

/-! ### The owed notices -/

/-- An owed notice that is still due (R107). -/
def noticeDue (s : State) (f : Flag) : Bool := hasFlag s.owedNotices f && hasFlag s.flags f && hasFlag s.noticeMask f

theorem hasFlag_withoutFlag (bits : BitVec 9) (f g : Flag) :
    hasFlag (withoutFlag bits f) g = (hasFlag bits g && !decide (f = g)) := by
  have hlt : flagCode g < 9 := by cases g <;> decide
  rw [hasFlag, withoutFlag, BitVec.getLsbD_and, BitVec.getLsbD_not, flagWeight_getLsbD, decide_eq_true hlt, Bool.true_and, hasFlag]

theorem withoutFlag_of_clear {bits : BitVec 9} {f : Flag} (h : hasFlag bits f = false) : withoutFlag bits f = bits := by
  refine BitVec.eq_of_getLsbD_eq fun k hk => ?_
  rw [withoutFlag, BitVec.getLsbD_and, BitVec.getLsbD_not, decide_eq_true hk, Bool.true_and]
  by_cases hcode : k = flagCode f
  · rw [hcode, show bits.getLsbD (flagCode f) = false from h, Bool.false_and]
  · have hbit : (flagWeight f).getLsbD k = false := by
      rw [flagWeight, BitVec.getLsbD_shiftLeft, BitVec.getLsbD_one]
      simp
      omega
    rw [hbit, Bool.not_false, Bool.and_true]

theorem insertOwed_eq (f : Flag) (s : State) :
    insertOwed s f =
      { s with
        store := s.store ++ if noticeDue s f then [newRecord (.notice f) s] else []
        owedNotices := withoutFlag s.owedNotices f } := by
  unfold insertOwed noticeDue
  cases howed : hasFlag s.owedNotices f with
  | false => simp [withoutFlag_of_clear howed]
  | true =>
    dsimp only
    cases hdue : hasFlag s.flags f && hasFlag s.noticeMask f <;> simp only [Bool.true_and, hdue]
    · simp
    · rfl

theorem insertOwed_foldl {flags : List Flag} (hnodup : flags.Nodup) (s : State) :
    flags.foldl insertOwed s =
      { s with
        store := s.store ++ (flags.filter (noticeDue s)).map fun f => newRecord (.notice f) s
        owedNotices := flags.foldl withoutFlag s.owedNotices } := by
  induction flags generalizing s with
  | nil => simp
  | cons f flags ih =>
    obtain ⟨hnew, hnodup⟩ := List.nodup_cons.mp hnodup
    have hdue : flags.filter (noticeDue (insertOwed s f)) = flags.filter (noticeDue s) := by
      refine List.filter_congr fun g hg => ?_
      have hne : f ≠ g := fun h => hnew (h ▸ hg)
      rw [insertOwed_eq, noticeDue, hasFlag_withoutFlag, decide_eq_false hne, Bool.not_false, Bool.and_true]
      rfl
    rw [List.foldl_cons, ih hnodup, hdue, insertOwed_eq, List.filter_cons]
    cases noticeDue s f <;> simp [newRecord]

theorem allFlags_nodup : allFlags.Nodup := by decide

theorem withoutAllFlags (bits : BitVec 9) : allFlags.foldl withoutFlag bits = 0 := by
  simp [allFlags, withoutFlag, flagWeight, flagCode, BitVec.and_assoc]

end Sys2Proof.Machine

/-! The resync pass over the bound entries (R101, R102), followed as the decrement pass is, and the valid ACK (§6.4). -/

namespace Sys2Proof.Machine

set_option Elab.async false

open Sys2Proof.Safety

variable {s : State}

/-! ### The bound entries -/

/-- The record that restates an entry, where it needs one (R102). -/
def restatement (now : BitVec 32) (e : Fin 256 × Binding) : Option Record :=
  (resyncBody e.1 e.2).map fun body => { body := body, delivery := .unsent, mergeCount := 1, timestamp := now }

/-- The records that restate the marked ones among the entries. -/
def restated (now : BitVec 32) (entries : Table 256 Binding) : List Record :=
  (entries.filter fun e => e.2.resync).filterMap (restatement now)

/-- The records that restate the marked entries below an index. -/
def restatedBelow (now : BitVec 32) (entries : Table 256 Binding) (i : Fin 256) : List Record :=
  ((entries.filter fun e => e.2.resync).filter fun e => e.1 < i).filterMap (restatement now)

/-- An entry after the pass, which keeps its mark where the records before it have filled the store. -/
def afterResync (now : BitVec 32) (room : Nat) (entries : Table 256 Binding) (e : Fin 256 × Binding) : Fin 256 × Binding :=
  (e.1, { e.2 with resync := e.2.resync && decide (room ≤ (restatedBelow now entries e.1).length) })

/-- The state after the pass over the entries not yet reached. -/
def resynced (front rest : Table 256 Binding) (s : State) : State :=
  { s with
    bindings := front ++ rest.map (afterResync s.tickCount (64 - s.store.length) rest)
    store := s.store ++ (restated s.tickCount rest).take (64 - s.store.length) }

section

variable {front rest : Table 256 Binding} {i : Fin 256} {b : Binding}

theorem resyncEntry_reached (hbindings : s.bindings = front ++ (i, b) :: rest) (hwf : s.bindings.wf)
    (hroom : s.store.length < 64) (hmark : b.resync = true) :
    resyncEntry s i =
      { s with
        bindings := front ++ (i, { b with resync := false }) :: rest
        store := s.store ++ (restatement s.tickCount (i, b)).toList } := by
  have hlookup : s.bindings.lookup i = some b := by rw [hbindings]; exact Table.lookup_at_place (hbindings ▸ hwf)
  have hput : s.bindings.put i { b with resync := false } = front ++ (i, { b with resync := false }) :: rest := by
    rw [hbindings]
    exact Table.put_at_place (hbindings ▸ hwf) _
  rw [resyncEntry, hlookup]
  dsimp only
  rw [decide_eq_true (p := s.store.length < Config.storeCapacity) hroom, hmark, setBinding, hput, restatement]
  cases resyncBody i b <;> simp [appendRecord, newRecord]

theorem resyncEntry_not_reached (hbindings : s.bindings = front ++ (i, b) :: rest) (hwf : s.bindings.wf)
    (h : 64 ≤ s.store.length ∨ b.resync = false) : resyncEntry s i = s := by
  have hlookup : s.bindings.lookup i = some b := by rw [hbindings]; exact Table.lookup_at_place (hbindings ▸ hwf)
  rw [resyncEntry, hlookup]
  rcases h with h | h
  · simp [Nat.not_lt.mpr h]
  · simp [h]

theorem restatedBelow_self (now : BitVec 32) (hplace : Table.wf (front ++ (i, b) :: rest)) :
    restatedBelow now ((i, b) :: rest) i = [] := by
  have hbelow : ((((i, b) :: rest).filter fun e => e.2.resync).filter fun e => decide (e.1 < i)) = [] := by
    refine List.filter_eq_nil_iff.mpr fun e he => ?_
    rcases List.mem_cons.mp (List.mem_of_mem_filter he) with rfl | he
    · simp
    · simpa using (Table.lt_of_place hplace he).le
  rw [restatedBelow, hbelow, List.filterMap_nil]

theorem restatement_toList_length (now : BitVec 32) (e : Fin 256 × Binding) : (restatement now e).toList.length ≤ 1 := by
  cases restatement now e <;> simp

theorem restated_cons (now : BitVec 32) (e : Fin 256 × Binding) (rest : Table 256 Binding) :
    restated now (e :: rest) = (if e.2.resync then (restatement now e).toList else []) ++ restated now rest := by
  rw [restated, List.filter_cons, restated]
  split
  · cases h : restatement now e <;> simp [h]
  · rfl

theorem restatedBelow_cons (now : BitVec 32) (e : Fin 256 × Binding) (rest : Table 256 Binding) {j : Fin 256} (hj : e.1 < j) :
    restatedBelow now (e :: rest) j = (if e.2.resync then (restatement now e).toList else []) ++ restatedBelow now rest j := by
  rw [restatedBelow, List.filter_cons, restatedBelow]
  split
  · cases h : restatement now e <;> simp [h, hj]
  · rfl

theorem afterResync_head (now : BitVec 32) (room : Nat) (hplace : Table.wf (front ++ (i, b) :: rest)) :
    afterResync now room ((i, b) :: rest) (i, b) = (i, { b with resync := b.resync && decide (room ≤ 0) }) := by
  rw [afterResync, restatedBelow_self _ hplace, List.length_nil]

theorem afterResync_no_room (now : BitVec 32) (entries : Table 256 Binding) (e : Fin 256 × Binding) :
    afterResync now 0 entries e = e := by
  rw [afterResync, decide_eq_true (Nat.zero_le _), Bool.and_true]

/-- An entry that the pass reaches with its mark: what it adds to the store is what the entries after it have less room by. -/
theorem resynced_reached (hplace : Table.wf (front ++ (i, b) :: rest)) (hroom : s.store.length < 64) (hmark : b.resync = true) :
    resynced (front ++ [(i, { b with resync := false })]) rest
        { s with
          bindings := front ++ (i, { b with resync := false }) :: rest
          store := s.store ++ (restatement s.tickCount (i, b)).toList } =
      resynced front ((i, b) :: rest) s := by
  have hone := restatement_toList_length s.tickCount (i, b)
  have hplaces : 64 - (s.store.length + (restatement s.tickCount (i, b)).toList.length) =
      64 - s.store.length - (restatement s.tickCount (i, b)).toList.length := by omega
  have htake : (restatement s.tickCount (i, b)).toList.take (64 - s.store.length) = (restatement s.tickCount (i, b)).toList :=
    List.take_of_length_le (by omega)
  have hrest : rest.map (afterResync s.tickCount (64 - s.store.length) ((i, b) :: rest)) =
      rest.map (afterResync s.tickCount
        (64 - s.store.length - (restatement s.tickCount (i, b)).toList.length) rest) := by
    refine List.map_congr_left fun e he => ?_
    have hiff : 64 - s.store.length ≤ (restatement s.tickCount (i, b)).toList.length + (restatedBelow s.tickCount rest e.1).length
        ↔ 64 - s.store.length - (restatement s.tickCount (i, b)).toList.length ≤ (restatedBelow s.tickCount rest e.1).length := by
      omega
    rw [afterResync, afterResync, restatedBelow_cons _ _ _ (Table.lt_of_place hplace he), if_pos hmark, List.length_append,
      decide_eq_decide.mpr hiff]
  have hfalse : decide (64 - s.store.length ≤ 0) = false := decide_eq_false (by omega)
  simp only [resynced, List.map_cons, afterResync_head _ _ hplace, hrest, hfalse, Bool.and_false, restated_cons, hmark, if_true,
    List.length_append, List.take_append, htake, hplaces, List.append_assoc, List.singleton_append]

/-- An entry without a mark, or one that a full store keeps the pass from. -/
theorem resynced_not_reached (hplace : Table.wf (front ++ (i, b) :: rest)) (h : 64 ≤ s.store.length ∨ b.resync = false) :
    resynced (front ++ [(i, b)]) rest s = resynced front ((i, b) :: rest) s := by
  rcases h with hfull | hmark
  · have hroom : 64 - s.store.length = 0 := by omega
    have hfixed : ∀ entries, afterResync s.tickCount 0 entries = id := fun entries => funext (afterResync_no_room _ entries)
    simp only [resynced, hroom, hfixed, List.map_id, List.take_zero, List.append_assoc, List.singleton_append]
  · have hrest : rest.map (afterResync s.tickCount (64 - s.store.length) ((i, b) :: rest)) =
        rest.map (afterResync s.tickCount (64 - s.store.length) rest) := by
      refine List.map_congr_left fun e he => ?_
      rw [afterResync, afterResync, restatedBelow_cons _ _ _ (Table.lt_of_place hplace he), hmark, if_neg Bool.false_ne_true,
        List.nil_append]
    have hhead : afterResync s.tickCount (64 - s.store.length) ((i, b) :: rest) (i, b) = (i, b) := by
      rw [afterResync_head _ _ hplace, hmark, Bool.false_and, ← hmark]
    have hrecords : restated s.tickCount ((i, b) :: rest) = restated s.tickCount rest := by
      rw [restated_cons, hmark, if_neg Bool.false_ne_true, List.nil_append]
    simp only [resynced, List.map_cons, hhead, hrest, hrecords, List.append_assoc, List.singleton_append]

/-- The pass over the entries not yet reached, by the first of them. -/
theorem resyncEntries_foldl (front rest : Table 256 Binding) (s : State) (hbindings : s.bindings = front ++ rest)
    (hwf : s.bindings.wf) : (rest.map Prod.fst).foldl resyncEntry s = resynced front rest s := by
  induction rest generalizing front s with
  | nil => simp [resynced, restated, ← hbindings]
  | cons e rest ih =>
    obtain ⟨i, b⟩ := e
    have hplace : Table.wf (front ++ (i, b) :: rest) := hbindings ▸ hwf
    rw [List.map_cons, List.foldl_cons]
    by_cases hreached : s.store.length < 64 ∧ b.resync = true
    · obtain ⟨hroom, hmark⟩ := hreached
      rw [resyncEntry_reached hbindings hwf hroom hmark, ih (front ++ [(i, { b with resync := false })]) _ (by simp)
        (Table.wf_at_place hplace _), resynced_reached hplace hroom hmark]
    · have hnot : 64 ≤ s.store.length ∨ b.resync = false := by
        rw [not_and_or, not_lt, Bool.not_eq_true] at hreached
        exact hreached
      rw [resyncEntry_not_reached hbindings hwf hnot, ih (front ++ [(i, b)]) s (by simp [hbindings]) hwf,
        resynced_not_reached hplace hnot]

end

/-! ### The pass and the valid ACK -/

/-- The state after the owed notices are taken. -/
def noticed (s : State) : State :=
  { s with
    store := s.store ++ (allFlags.filter (noticeDue s)).map fun f => newRecord (.notice f) s
    owedNotices := 0 }

theorem resyncPass_eq (hwf : s.bindings.wf) : resyncPass s = resynced [] s.bindings (noticed s) := by
  rw [resyncPass, insertOwed_foldl allFlags_nodup, withoutAllFlags]
  exact resyncEntries_foldl [] s.bindings (noticed s) rfl hwf

/-- With no notice owed and no binding marked the pass has nothing to do. -/
theorem resyncPass_of_nothing (howed : s.owedNotices = 0) (hmarks : ∀ e ∈ s.bindings, e.2.resync = false) : resyncPass s = s := by
  have hnotices : allFlags.foldl insertOwed s = s := by
    refine List.foldl_fixed' (fun f => ?_) _
    have hclear : hasFlag s.owedNotices f = false := by rw [howed]; exact BitVec.getLsbD_zero
    rw [insertOwed, hclear, if_neg Bool.false_ne_true]
  have hentries : ∀ is : List (Fin 256), is.foldl resyncEntry s = s := by
    refine List.foldl_fixed' fun i => ?_
    unfold resyncEntry
    split
    · rfl
    · rename_i b hlookup
      rw [hmarks _ (Table.mem_of_lookup hlookup), Bool.and_false, if_neg Bool.false_ne_true]
  rw [resyncPass, hnotices, hentries]

theorem acknowledge_of_many {d : Nat} (h : 48 < s.store.length - d) : acknowledge d s = removeAcknowledged d s := by
  rw [acknowledge, if_neg]
  rw [removeAcknowledged_eq, List.length_drop]
  exact not_le.mpr h

theorem acknowledge_of_few {d : Nat} (h : s.store.length - d ≤ 48) : acknowledge d s = resyncPass (removeAcknowledged d s) := by
  rw [acknowledge, if_pos]
  rw [removeAcknowledged_eq, List.length_drop]
  exact h

theorem removeAcknowledged_numbered {d : Nat} (h : NumberingLaw s) (hd : d ≤ numberedCount s.store) :
    removeAcknowledged d s =
      { s with
        store := s.store.drop d
        retryCount := 0
        reporter := if d < numberedCount s.store then .awaiting else .idle
        ackTimer := if d < numberedCount s.store then some s.ackTimeout else none } := by
  rw [removeAcknowledged_eq, numberedCount_drop hd h]
  rcases Nat.lt_or_ge d (numberedCount s.store) with hlt | hge
  · simp only [if_pos hlt, if_neg (show ¬ numberedCount s.store - d = 0 by omega)]
  · simp only [if_neg (show ¬ d < numberedCount s.store by omega), if_pos (show numberedCount s.store - d = 0 by omega)]

/-- A valid ACK that the node receives. -/
theorem exec_ack_valid {ext : BitVec 15} {d : Nat} (hreceives : Receives .c s) (hmode : s.mode ≠ .unaddressed) (h : NumberingLaw s)
    (hcapacity : s.store.length ≤ 64) (hd : 1 ≤ d) (hnumbered : d ≤ numberedCount s.store) :
    exec (.ack s.address ext [s.nextSequence - BitVec.ofNat 16 (numberedCount s.store) + BitVec.ofNat 16 d]) s =
      .next (grantStep (acknowledge d (setLink .c (.up 0 false) s))) := by
  rw [exec_ack hreceives (by simp)]
  exact next_grant ((routeAck_own (s := setLink .c (.up 0 false) s) hmode).trans
    (takeAck_valid (s := setLink .c (.up 0 false) s) h hcapacity hd hnumbered))

/-- Settles O21: the removal, after which the pass does not run or has nothing to do. -/
theorem ackRemovesAcknowledged : Obligations.AckRemovesAcknowledged := by
  intro ext d s hreceives hmode hnumbering hcapacity hd hnumbered hquiet
  rw [exec_ack_valid hreceives hmode hnumbering hcapacity hd hnumbered]
  have hremoved := removeAcknowledged_numbered (s := setLink .c (.up 0 false) s) hnumbering hnumbered
  refine next_grant ?_
  rcases Nat.lt_or_ge 48 (s.store.length - d) with hmany | hfew
  · exact (acknowledge_of_many (s := setLink .c (.up 0 false) s) hmany).trans hremoved
  · obtain ⟨howed, hmarks⟩ := hquiet.resolve_left (not_lt.mpr hfew)
    rw [acknowledge_of_few (s := setLink .c (.up 0 false) s) hfew, hremoved]
    exact resyncPass_of_nothing howed hmarks

/-- Settles O23: the removal, then the pass by induction over the entries. -/
theorem resyncPassRestates : Obligations.ResyncPassRestates := by
  intro ext d s hreceives hmode hnumbering hkeys hcapacity hd hnumbered hfew created noticedStore room marked restatedBy
  have hrestatedBy : ∀ entries, restatedBy entries = entries.filterMap (restatement s.tickCount) := fun entries => by
    refine List.filterMap_congr fun e _ => ?_
    rw [restatement, resyncBody]
    cases e.2.report <;> cases e.2.track <;> rfl
  rw [exec_ack_valid hreceives hmode hnumbering hcapacity hd hnumbered]
  refine next_grant ?_
  rw [acknowledge_of_few (s := setLink .c (.up 0 false) s) hfew,
    removeAcknowledged_numbered (s := setLink .c (.up 0 false) s) hnumbering hnumbered]
  refine (resyncPass_eq (by exact hkeys.1)).trans ?_
  simp only [hrestatedBy]
  rfl

end Sys2Proof.Machine

/-! Samples (chapter 3): frames that the classifier leaves whole, and what one pair of a bound channel does. -/

namespace Sys2Proof.Machine

set_option Elab.async false

open Sys2Proof.Safety

variable {s : State}

/-! ### A SAMPLE frame received -/

theorem exec_sample {f : SampleFrame} (hreceives : Receives .s s) (hrange : sampleInRange f = true) :
    exec (.sample f) s = .next (grantStep (routeSample f (setLink .s (.up 0 false) s))) := by
  obtain ⟨n, a, hlink⟩ := up_of_receives hreceives
  have hexec : exec (.sample f) s = whenRunning (receiveFrame .s (sampleInRange f) (routeSample f)) s := rfl
  rw [hexec, whenRunning_running _ hreceives.1, hrange, receiveFrame_accepted _ hlink]

theorem pairs_ne_nil {f : SampleFrame} (h : sampleInRange f = true) : f.pairs ≠ [] := by
  simp only [sampleInRange, Bool.and_eq_true, decide_eq_true_eq] at h
  obtain ⟨⟨-, hlength⟩, -⟩ := h
  exact List.ne_nil_of_length_pos hlength

theorem routeSample_outside (f : SampleFrame) (h : s.mode ≠ .filtering) : routeSample f s = forwarded (sampleAsFrame f) s := by
  unfold routeSample
  split
  · rename_i hmode
    exact absurd hmode h
  · exact placeForward_eq_forwarded _ _

theorem routeSample_filtering (f : SampleFrame) (h : s.mode = .filtering) : routeSample f s = classifyFrame f s := by
  rw [routeSample, h]

/-- The rewritten frame is handed to the forward queue, if any pair is kept. -/
theorem classifyFrame_eq (f : SampleFrame) (s : State) :
    classifyFrame f s =
      if (classifyPairs f.source f.pairs s).2 = [] then (classifyPairs f.source f.pairs s).1
      else forwarded (sampleAsFrame { f with pairs := (classifyPairs f.source f.pairs s).2 })
        (classifyPairs f.source f.pairs s).1 := by
  simp only [classifyFrame, List.isEmpty_iff, placeForward_eq_forwarded]

theorem classifyPairs_unbound {source : BitVec 6} {pairs : List Pair} (h : ∀ p ∈ pairs, findKey source p.channel s = none) :
    classifyPairs source pairs s = (s, if defaultKeeps s.defaultPolicy then pairs else []) := by
  induction pairs with
  | nil => simp [classifyPairs]
  | cons pair rest ih =>
    obtain ⟨hpair, hrest⟩ := List.forall_mem_cons.mp h
    have hfirst : classifyPair source pair s = (s, defaultKeeps s.defaultPolicy) := by rw [classifyPair, hpair]
    rw [classifyPairs, hfirst, ih hrest]
    cases defaultKeeps s.defaultPolicy <;> rfl

/-- Settles O13, by the mode and the default policy. -/
theorem unclassifiedSamples : Obligations.UnclassifiedSamples := by
  intro f s hreceives hrange
  rw [exec_sample hreceives hrange]
  refine ⟨fun hmode => next_grant (routeSample_outside f hmode), fun hmode hunbound => ?_⟩
  have hroute := routeSample_filtering (s := setLink .s (.up 0 false) s) f hmode
  have hpairs := classifyPairs_unbound (s := setLink .s (.up 0 false) s) hunbound
  rw [hroute, classifyFrame_eq, hpairs]
  refine ⟨fun hpass => next_grant ?_, fun hdrop => next_grant ?_⟩
  · have hkeeps : defaultKeeps (setLink .s (.up 0 false) s).defaultPolicy = true := by
      rw [setLink_defaultPolicy, hpass]
      rfl
    rw [hkeeps, if_pos rfl]
    exact if_neg (pairs_ne_nil hrange)
  · have hdrops : defaultKeeps (setLink .s (.up 0 false) s).defaultPolicy = false := by
      rw [setLink_defaultPolicy, hdrop]
      rfl
    rw [hdrops, if_neg Bool.false_ne_true]
    exact if_pos rfl

/-! ### One pair of a bound channel -/

theorem forwardDecision_eq (b : Binding) (changing : Bool) : forwardDecision b changing = (policyKeeps b changing, decimationAfter b) := by
  unfold forwardDecision policyKeeps decimationAfter
  cases b.policy with
  | decimate => by_cases h : b.decimation = 0 <;> simp [h]
  | pass => rfl
  | onChange => rfl
  | drop => rfl

theorem latchUpdate_eq_widened (zone : Nat) (l : Option Latches) : latchUpdate zone l = widened zone l := by cases l <;> rfl

theorem rawZone_eq_length (thresholds : List Word) (value : Word) :
    rawZone thresholds value = (thresholds.filter fun t => t.signed ≤ value.signed).length := List.countP_eq_length_filter

theorem offerIfSome_ite (c : Prop) [Decidable c] (body : Body) (s : State) :
    offerIfSome (if c then some body else none) s = if c then recorded body s else s := by
  split
  · exact offerRecord_eq_recorded _ _
  · rfl

/-- A frame of one pair, whose binding names a profile: the pair's record, then the frame where the pair is kept. -/
theorem classifyFrame_single {f : SampleFrame} {pair : Pair} {i : Fin 256} {b : Binding} {p : Profile} (hpairs : f.pairs = [pair])
    (hkey : findKey f.source pair.channel s = some (i, b)) (hslot : s.activeBank.lookup b.profile = some p) :
    classifyFrame f s =
      let result := classifyBound i b p pair.value s
      if result.2 = true then forwarded (sampleAsFrame f) result.1 else result.1 := by
  have hpair : classifyPair f.source pair s = classifyBound i b p pair.value s := by
    simp only [classifyPair, hkey, hslot]
  have hwhole : ({ f with pairs := [pair] } : SampleFrame) = f := by rw [← hpairs]
  rw [classifyFrame_eq, hpairs, classifyPairs, hpair]
  cases hkept : (classifyBound i b p pair.value s).2 <;> simp [classifyPairs, hwhole, hkept]

theorem exec_sample_single {f : SampleFrame} {pair : Pair} {i : Fin 256} {b : Binding} {p : Profile}
    (hreceives : Receives .s s) (hmode : s.mode = .filtering) (hrange : sampleInRange f = true) (hpairs : f.pairs = [pair])
    (hkey : findKey f.source pair.channel s = some (i, b)) (hslot : s.activeBank.lookup b.profile = some p) :
    exec (.sample f) s =
      .next (grantStep
        (if (classifyBound i b p pair.value (setLink .s (.up 0 false) s)).2 = true then
          forwarded (sampleAsFrame f) (classifyBound i b p pair.value (setLink .s (.up 0 false) s)).1
        else (classifyBound i b p pair.value (setLink .s (.up 0 false) s)).1)) := by
  rw [exec_sample hreceives hrange, routeSample_filtering f (by exact hmode)]
  exact next_grant (classifyFrame_single (s := setLink .s (.up 0 false) s) hpairs hkey hslot)

theorem sampleBinding_settles (i : Fin 256) {b : Binding} (p : Profile) (value : Word) (h : trackingCode b.track ≠ 1) :
    sampleBinding i b p value = settle i { b with countdown := b.limit, seen := b.seen + 1 } p value := by
  unfold sampleBinding
  cases htrack : b.track with
  | tracking zone candidate => exact absurd (by rw [htrack]; rfl) h
  | unsettled => simp only
  | stale zone => simp only

/-- Settles O14: the binding settles, then the record, then the frame. -/
theorem sampleSettlesBinding : Obligations.SampleSettlesBinding := by
  intro f pair i b p s hreceives hmode hrange hpairs hkey hslot htrack
  rw [exec_sample_single hreceives hmode hrange hpairs hkey hslot]
  simp only [classifyBound, sampleBinding_settles i p pair.value htrack, settle, forwardDecision_eq, latchUpdate_eq_widened,
    rawZone_eq_length, offerIfSome_ite]
  rfl

theorem sampleBinding_tracks (i : Fin 256) {b : Binding} (p : Profile) (value : Word) {zone : Nat} {candidate : Option Candidate}
    (h : b.track = .tracking zone candidate) :
    sampleBinding i b p value = trackSample i { b with countdown := b.limit, seen := b.seen + 1 } p zone candidate value := by
  unfold sampleBinding
  simp only [h]

theorem candidateCount_eq (zone : Nat) (candidate : Option Candidate) :
    candidateCount zone candidate =
      if candidate.map Candidate.zone = some zone then candidate.elim 0 Candidate.count + 1 else 1 := by
  cases candidate with
  | none => rfl
  | some c => simp [candidateCount]

theorem edgeAdmits_iff {e : Edge} {fromZone toZone : Nat} :
    edgeAdmits e fromZone toZone = true
      ↔ e = .both ∨ (e = .rising ∧ fromZone < toZone) ∨ (e = .falling ∧ toZone < fromZone) := by
  cases e <;> simp [edgeAdmits]

/-- Settles O15: the zone stands, the candidate moves, or the transition is committed. -/
theorem sampleTracksBinding : Obligations.SampleTracksBinding := by
  intro f pair i b p zone candidate s hreceives hmode hrange hpairs hkey hslot htrack
  rw [exec_sample_single hreceives hmode hrange hpairs hkey hslot]
  simp only [classifyBound, sampleBinding_tracks i p pair.value htrack, trackSample, forwardDecision_eq, candidateCount_eq]
  refine ⟨fun hstands => ?stands, fun hmoves hcount => ?candidate, fun hmoves hcount => ?committed⟩
  case stands =>
    simp only [if_pos hstands]
    rfl
  case candidate =>
    simp only [if_neg hmoves, if_neg hcount]
    rfl
  case committed =>
    simp only [if_neg hmoves, if_pos hcount, commitTransition, latchUpdate_eq_widened, offerIfSome_ite, Bool.and_eq_true,
      edgeAdmits_iff]
    rfl

end Sys2Proof.Machine

/-! What a whole SAMPLE frame leaves (§3.1, §3.8): the fields it writes, the static fields and the numbered records that it
keeps, and its pairs taken in order. -/

namespace Sys2Proof.Machine

set_option Elab.async false

open Sys2Proof.Safety

variable {s t u : State} {source : BitVec 6}

/-! ### What classification leaves -/

/-- The fields of a binding that no sample changes. -/
def SameStatic (b b' : Binding) : Prop :=
  b'.source = b.source ∧ b'.channel = b.channel ∧ b'.profile = b.profile ∧ b'.policy = b.policy
    ∧ b'.factor = b.factor ∧ b'.report = b.report ∧ b'.limit = b.limit ∧ b'.reason = b.reason

/-- The numbered records of a store. -/
def numberedRecords (store : List Record) : List Record := store.filter fun r => (recordSequence r).isSome

/-- What the pairs of a source leave: which fields they write, and what stands in the table and the store. -/
structure Classified (source : BitVec 6) (s t : State) : Prop where
  writes : t = { s with bindings := t.bindings, store := t.store, owedNotices := t.owedNotices, flags := t.flags }
  indices : t.bindings.map Prod.fst = s.bindings.map Prod.fst
  entries : ∀ i b, s.bindings.lookup i = some b →
    ∃ b', t.bindings.lookup i = some b' ∧ SameStatic b b' ∧ (b.source ≠ source → b' = b)
  numbered : numberedRecords t.store = numberedRecords s.store

theorem SameStatic.refl (b : Binding) : SameStatic b b := ⟨rfl, rfl, rfl, rfl, rfl, rfl, rfl, rfl⟩

theorem SameStatic.trans {a b c : Binding} (h : SameStatic a b) (h' : SameStatic b c) : SameStatic a c := by
  obtain ⟨h1, h2, h3, h4, h5, h6, h7, h8⟩ := h
  obtain ⟨k1, k2, k3, k4, k5, k6, k7, k8⟩ := h'
  exact ⟨k1.trans h1, k2.trans h2, k3.trans h3, k4.trans h4, k5.trans h5, k6.trans h6, k7.trans h7, k8.trans h8⟩

theorem Classified.refl (source : BitVec 6) (s : State) : Classified source s s :=
  ⟨rfl, rfl, fun _ b h => ⟨b, h, .refl b, fun _ => rfl⟩, rfl⟩

theorem Classified.trans (h : Classified source s t) (h' : Classified source t u) : Classified source s u where
  writes := by
    rw [h'.writes, h.writes]
  indices := h'.indices.trans h.indices
  entries i b hb := by
    obtain ⟨b', hb', hstatic, hother⟩ := h.entries i b hb
    obtain ⟨b'', hb'', hstatic', hother'⟩ := h'.entries i b' hb'
    refine ⟨b'', hb'', hstatic.trans hstatic', fun hne => ?_⟩
    rw [hother' (fun heq => hne (hstatic.1.symm.trans heq)), hother hne]
  numbered := h'.numbered.trans h.numbered

/-- Setting a flag: at most one unnumbered record joins the store. -/
theorem classified_raiseFlag (source : BitVec 6) (f : Flag) (s : State) : Classified source s (raiseFlag f s) where
  writes := by conv_lhs => rw [raiseFlag_writes]
               simp
  indices := by rw [raiseFlag_bindings]
  entries i b hb := ⟨b, by rw [raiseFlag_bindings]; exact hb, .refl b, fun _ => rfl⟩
  numbered := by
    rcases raiseFlag_store f s with h | ⟨-, h⟩ <;> simp [h, numberedRecords]

theorem indices_put {table : Table 256 Binding} (hwf : table.wf) {i : Fin 256} {b : Binding} (b' : Binding)
    (hb : table.lookup i = some b) : (table.put i b').map Prod.fst = table.map Prod.fst :=
  map_put_of_lookup Prod.fst hwf hb rfl

/-- A binding of the source written with its static fields kept. -/
theorem classified_setBinding {i : Fin 256} {b b' : Binding} (hwf : s.bindings.wf) (hb : s.bindings.lookup i = some b)
    (hsource : b.source = source) (hstatic : SameStatic b b') : Classified source s (setBinding i b' s) where
  writes := rfl
  indices := indices_put hwf b' hb
  entries j c hc := by
    by_cases hj : j = i
    · subst hj
      obtain rfl := Option.some.inj (hb.symm.trans hc)
      exact ⟨b', Table.lookup_put_self _ _ _, hstatic, fun hne => absurd hsource hne⟩
    · exact ⟨c, (Table.lookup_put_of_ne _ _ hj).trans hc, .refl c, fun _ => rfl⟩
  numbered := rfl

theorem Classified.wf (h : Classified source s t) (hwf : s.bindings.wf) : t.bindings.wf := by
  rw [Table.wf, h.indices]
  exact hwf

theorem classified_failedInsertion {i : Fin 256} {b : Binding} (hwf : s.bindings.wf) (hb : s.bindings.lookup i = some b)
    (hsource : b.source = source) : Classified source s (failedInsertion i s) := by
  rw [failedInsertion_of_lookup hb]
  exact (classified_setBinding hwf hb hsource (b' := { b with resync := true }) (.refl b)).trans (classified_raiseFlag _ _ _)

/-- A merge changes an unnumbered record into an unnumbered one. -/
theorem mergeNewest_numbered {i : Fin 256} {toZone : Nat} {value : Word} {now : BitVec 32} {rs merged : List Record}
    (h : mergeNewest i toZone value now rs = some merged) : numberedRecords merged = numberedRecords rs := by
  induction rs generalizing merged with
  | nil => cases h
  | cons r older ih =>
    rw [mergeNewest] at h
    split at h
    · rename_i hunsent
      have hsequence : recordSequence r = none := recordSequence_eq_none_iff.mpr (unsentOf_iff.mp hunsent).1
      split at h
      · cases h
        have hmerged : ∀ own a, recordSequence (mergedRecord r own a toZone value now) = none := fun _ _ => hsequence
        simp [numberedRecords, hsequence, hmerged]
      · cases h
    · obtain ⟨rest, hrest, rfl⟩ := Option.map_eq_some_iff.mp h
      have := ih hrest
      simp only [numberedRecords, List.filter_cons] at this ⊢
      rw [this]

theorem mergeIntoStore_numbered {i : Fin 256} {toZone : Nat} {value : Word} {merged : List Record}
    (h : mergeIntoStore i toZone value s = some merged) : numberedRecords merged = numberedRecords s.store := by
  rw [mergeIntoStore] at h
  split at h
  · cases h
  · obtain ⟨reversed, hreversed, rfl⟩ := Option.map_eq_some_iff.mp h
    have := mergeNewest_numbered hreversed
    simp only [numberedRecords, List.filter_reverse] at this ⊢
    rw [this, List.reverse_reverse]

/-- A record offered for a binding of the source. -/
theorem classified_offerRecord {subject : Subject} {body : Body} {b : Binding} (hwf : s.bindings.wf)
    (hbody : bodySubject body = some subject) (hb : s.bindings.lookup subject.index = some b) (hsource : b.source = source) :
    Classified source s (offerRecord body s) := by
  have hstore : ∀ store, numberedRecords store = numberedRecords s.store → Classified source s { s with store := store } :=
    fun store h => ⟨rfl, rfl, fun _ c hc => ⟨c, hc, .refl c, fun _ => rfl⟩, h⟩
  have hfailed := classified_failedInsertion hwf hb hsource
  rcases Nat.lt_or_ge s.store.length 64 with hroom | hfull
  · rw [offerRecord_of_room _ hroom]
    exact hstore _ (by simp [numberedRecords])
  · cases body with
    | notice flag => cases hbody
    | settled own zone value reason =>
      cases hbody
      rwa [offerRecord_settled_full hfull]
    | stale own zone =>
      cases hbody
      rwa [offerRecord_stale_full hfull]
    | transition own fromZone toZone value =>
      cases hbody
      cases hmerge : mergeIntoStore subject.index toZone value s with
      | none => rwa [offerRecord_of_unmerged fromZone hfull hmerge]
      | some store =>
        rw [offerRecord_of_merged _ hfull hmerge]
        exact hstore _ (mergeIntoStore_numbered hmerge)

theorem sameStatic_classified (i : Fin 256) (b : Binding) (p : Profile) (value : Word) :
    SameStatic b (classifiedBinding i b p value) := by
  have h := sampleBinding_keeps i b p value
  exact ⟨h.source, h.channel, h.profile, h.policy, h.factor, h.report, h.limit, h.reason⟩

/-- The record that a classified pair offers is of its binding. -/
theorem sampleBinding_subject {i : Fin 256} {b : Binding} {p : Profile} {value : Word} {body : Body}
    (h : (sampleBinding i b p value).body = some body) : ∃ subject, bodySubject body = some subject ∧ subject.index = i := by
  have hsettle : ∀ c, (settle i c p value).body = some body → ∃ subject, bodySubject body = some subject ∧ subject.index = i := by
    intro c hc
    simp only [settle, Option.ite_none_right_eq_some, Option.some.injEq] at hc
    obtain ⟨-, rfl⟩ := hc
    exact ⟨_, rfl, rfl⟩
  unfold sampleBinding at h
  dsimp only at h
  split at h
  · exact hsettle _ h
  · exact hsettle _ h
  · unfold trackSample at h
    dsimp only at h
    split at h
    · cases h
    · split at h
      · simp only [commitTransition, Option.ite_none_right_eq_some, Option.some.injEq] at h
        obtain ⟨-, rfl⟩ := h
        exact ⟨_, rfl, rfl⟩
      · cases h

theorem findKey_source {channel : BitVec 5} {i : Fin 256} {b : Binding} (h : findKey source channel s = some (i, b)) :
    b.source = source := by
  have hkey := List.find?_some h
  simp only [hasKey, Bool.and_eq_true, beq_iff_eq] at hkey
  exact hkey.1

theorem classified_classifyPair (hwf : s.bindings.wf) (pair : Pair) : Classified source s (classifyPair source pair s).1 := by
  unfold classifyPair
  split
  · exact .refl _ _
  · rename_i i b hkey
    have hb := Table.lookup_of_mem hwf (findKey_mem hkey)
    have hsource := findKey_source hkey
    split
    · exact .refl _ _
    · rename_i p hslot
      rw [classifyBound_fst]
      have hset := classified_setBinding hwf hb hsource (sameStatic_classified i b p pair.value)
      unfold offerIfSome
      split
      · rename_i body hbody
        obtain ⟨subject, hsubject, rfl⟩ := sampleBinding_subject hbody
        refine hset.trans (classified_offerRecord (hset.wf hwf) hsubject (Table.lookup_put_self _ _ _) ?_)
        exact (sameStatic_classified _ b p pair.value).1.trans hsource
      · exact hset

theorem classified_classifyPairs (hwf : s.bindings.wf) (pairs : List Pair) : Classified source s (classifyPairs source pairs s).1 := by
  induction pairs generalizing s with
  | nil => exact .refl _ _
  | cons pair rest ih =>
    have hfirst := classified_classifyPair (source := source) hwf pair
    exact hfirst.trans (ih (hfirst.wf hwf))

/-- Settles O17: the pairs one after another, then the rewritten frame. -/
theorem sampleFrameLeavesTheRest : Obligations.SampleFrameLeavesTheRest := by
  intro f s hkeys hreceives hrange
  rw [exec_sample hreceives hrange]
  refine ⟨_, rfl, ?_⟩
  have hwf : (setLink .s (.up 0 false) s).bindings.wf := hkeys.1
  obtain ⟨t, ht, hclassified⟩ : ∃ t, (routeSample f (setLink .s (.up 0 false) s) = t ∨
      ∃ frame, routeSample f (setLink .s (.up 0 false) s) = forwarded frame t) ∧
      Classified f.source (setLink .s (.up 0 false) s) t := by
    by_cases hmode : s.mode = .filtering
    · refine ⟨_, ?_, classified_classifyPairs hwf f.pairs⟩
      rw [routeSample_filtering f (by exact hmode), classifyFrame_eq]
      split
      · exact .inl rfl
      · exact .inr ⟨_, rfl⟩
    · exact ⟨_, .inr ⟨_, routeSample_outside f (by exact hmode)⟩, .refl _ _⟩
  have hwhole : ∃ u, Classified f.source (setLink .s (.up 0 false) s) u ∧
      routeSample f (setLink .s (.up 0 false) s) =
        { u with forwardQueue := (routeSample f (setLink .s (.up 0 false) s)).forwardQueue } := by
    rcases ht with ht | ⟨frame, ht⟩
    · exact ⟨t, hclassified, by rw [ht]⟩
    · rw [ht]
      rcases Nat.lt_or_ge t.forwardQueue.length 8 with hroom | hfull
      · exact ⟨t, hclassified, by rw [forwarded_of_room hroom]⟩
      · exact ⟨_, hclassified.trans (classified_raiseFlag _ .fwdLossC t), by rw [forwarded_of_full hfull]⟩
  obtain ⟨u, hu, hroute⟩ := hwhole
  rw [hroute]
  refine ⟨?_, hu.indices, fun i b hb => ?_, hu.numbered⟩
  · conv_lhs => rw [hu.writes]
    rfl
  · obtain ⟨b', hb', ⟨h1, h2, h3, h4, h5, h6, h7, h8⟩, hother⟩ := hu.entries i b hb
    exact ⟨b', hb', h1, h2, h3, h4, h5, h6, h7, h8, hother⟩

end Sys2Proof.Machine

/-! A SAMPLE frame as its pairs in order (§3.8, §8.5): the rewritten frame, the frame cut in two, the full forward queue and
the busy transmitter. -/

namespace Sys2Proof.Machine

set_option Elab.async false

open Sys2Proof.Safety

variable {s : State} {f : SampleFrame}

/-! ### The pairs of a frame -/

theorem classifyPair_writes (source : BitVec 6) (pair : Pair) (s : State) :
    (classifyPair source pair s).1 =
      { s with
        bindings := (classifyPair source pair s).1.bindings
        store := (classifyPair source pair s).1.store
        owedNotices := (classifyPair source pair s).1.owedNotices
        flags := (classifyPair source pair s).1.flags } := by
  unfold classifyPair
  split
  · rfl
  · split
    · rfl
    · rw [classifyBound_fst]
      unfold offerIfSome
      split
      · conv_lhs => rw [offerRecord_writes]
        rfl
      · rfl

theorem classifyPairs_writes (source : BitVec 6) (pairs : List Pair) (s : State) :
    (classifyPairs source pairs s).1 =
      { s with
        bindings := (classifyPairs source pairs s).1.bindings
        store := (classifyPairs source pairs s).1.store
        owedNotices := (classifyPairs source pairs s).1.owedNotices
        flags := (classifyPairs source pairs s).1.flags } := by
  induction pairs generalizing s with
  | nil => rfl
  | cons pair rest ih =>
    rw [classifyPairs, ih, classifyPair_writes]

theorem classifyPairs_sublist (source : BitVec 6) (pairs : List Pair) (s : State) :
    (classifyPairs source pairs s).2.Sublist pairs := by
  induction pairs generalizing s with
  | nil => exact .slnil
  | cons pair rest ih =>
    rw [classifyPairs]
    dsimp only
    split
    · exact (ih _).cons_cons _
    · exact (ih _).cons _

theorem classifyPairs_append (source : BitVec 6) (first others : List Pair) (s : State) :
    classifyPairs source (first ++ others) s =
      ((classifyPairs source others (classifyPairs source first s).1).1,
        (classifyPairs source first s).2 ++ (classifyPairs source others (classifyPairs source first s).1).2) := by
  induction first generalizing s with
  | nil => rfl
  | cons pair rest ih =>
    rw [List.cons_append, classifyPairs, ih, classifyPairs]
    dsimp only
    split <;> rfl

/-! ### The rewritten frame -/

/-- The frames that the kept pairs of a frame make: one, or none. -/
def rewrittenFrames (f : SampleFrame) (kept : List Pair) : List Frame :=
  if kept = [] then [] else [sampleAsFrame { f with pairs := kept }]

theorem classifyFrame_of_room (hroom : s.forwardQueue.length < 8) :
    classifyFrame f s =
      { (classifyPairs f.source f.pairs s).1 with
        forwardQueue := s.forwardQueue ++ rewrittenFrames f (classifyPairs f.source f.pairs s).2 } := by
  have hqueue := (classifyPairs_queues f.source f.pairs s).1
  rw [classifyFrame_eq, rewrittenFrames]
  split
  · rw [List.append_nil, ← hqueue]
  · rw [forwarded_of_room (by rwa [hqueue]), hqueue]

theorem classifyFrame_of_full (hfull : 8 ≤ s.forwardQueue.length) :
    classifyFrame f s =
      if (classifyPairs f.source f.pairs s).2 = [] then (classifyPairs f.source f.pairs s).1
      else raiseFlag .fwdLossC (classifyPairs f.source f.pairs s).1 := by
  have hqueue := (classifyPairs_queues f.source f.pairs s).1
  rw [classifyFrame_eq, forwarded_of_full (by rwa [hqueue])]

theorem forwarded_links (frame : Frame) (s : State) :
    (forwarded frame s).cLink = s.cLink ∧ (forwarded frame s).cTransmission = s.cTransmission := by
  unfold forwarded
  split
  · exact ⟨rfl, rfl⟩
  · exact ⟨raiseFlag_cLink _ _, raiseFlag_cTransmission _ _⟩

/-- A SAMPLE frame leaves the C port and its transmission, before the grant that it makes due. -/
theorem routeSample_links (f : SampleFrame) (s : State) :
    (routeSample f s).cLink = s.cLink ∧ (routeSample f s).cTransmission = s.cTransmission := by
  by_cases hmode : s.mode = .filtering
  · have hpairs : (classifyPairs f.source f.pairs s).1.cLink = s.cLink := by rw [classifyPairs_writes]
    have hqueues := (classifyPairs_queues f.source f.pairs s).2
    rw [routeSample_filtering f hmode, classifyFrame_eq]
    split
    · exact ⟨hpairs, hqueues⟩
    · exact ⟨(forwarded_links _ _).1.trans hpairs, (forwarded_links _ _).2.trans hqueues⟩
  · rw [routeSample_outside f hmode]
    exact forwarded_links _ _

/-- While no grant can follow it, a SAMPLE frame ends with its own effect. -/
theorem exec_sample_busy (hreceives : Receives .s s) (hrange : sampleInRange f = true)
    (hbusy : ¬ isUp s.cLink ∨ s.cTransmission ≠ none) :
    exec (.sample f) s = .next (routeSample f (setLink .s (.up 0 false) s)) := by
  rw [exec_sample hreceives hrange, grantStep_of_not_due]
  rw [(routeSample_links _ _).1, (routeSample_links _ _).2]
  exact hbusy

/-- With room in the forward queue and no grant to follow, a frame in FILTERING is its pairs and their rewritten frame. -/
theorem exec_sample_of_room (hreceives : Receives .s s) (hrange : sampleInRange f = true)
    (hbusy : ¬ isUp s.cLink ∨ s.cTransmission ≠ none) (hmode : s.mode = .filtering) (hroom : s.forwardQueue.length < 8) :
    exec (.sample f) s =
      .next { (classifyPairs f.source f.pairs (setLink .s (.up 0 false) s)).1 with
        forwardQueue :=
          s.forwardQueue ++ rewrittenFrames f (classifyPairs f.source f.pairs (setLink .s (.up 0 false) s)).2 } := by
  rw [exec_sample_busy hreceives hrange hbusy, routeSample_filtering _ (by exact hmode)]
  exact congrArg Host.Outcome.next (classifyFrame_of_room (s := setLink .s (.up 0 false) s) hroom)

/-- A frame does the same whatever the C port transmits. -/
theorem routeSample_with_transmission (x : Option CTransmission) :
    routeSample f { s with cTransmission := x } = { routeSample f s with cTransmission := x } := by
  have hforwarded : ∀ (frame : Frame) (u : State),
      forwarded frame { u with cTransmission := x } = { forwarded frame u with cTransmission := x } := by
    intro frame u
    rcases Nat.lt_or_ge u.forwardQueue.length 8 with hroom | hfull
    · rw [forwarded_of_room hroom, forwarded_of_room (s := { u with cTransmission := x }) hroom]
    · have hapart := raiseFlag_apart (q := u.pending) (fq := u.forwardQueue) (ct := x) (s := u)
        (t := { u with cTransmission := x }) .fwdLossC rfl
      rw [forwarded_of_full hfull, forwarded_of_full (s := { u with cTransmission := x }) hfull, hapart]
      simp only [← raiseFlag_pending .fwdLossC u, ← raiseFlag_forwardQueue .fwdLossC u]
  by_cases hmode : s.mode = .filtering
  · obtain ⟨hapart, hkept⟩ := classifyPairs_apart (q := s.pending) (fq := s.forwardQueue) (ct := x) (s := s)
      (t := { s with cTransmission := x }) f.source f.pairs rfl
    have hpairs : (classifyPairs f.source f.pairs { s with cTransmission := x }).1 =
        { (classifyPairs f.source f.pairs s).1 with cTransmission := x } := by
      rw [hapart, classifyPairs_writes]
    rw [routeSample_filtering _ hmode, routeSample_filtering (s := { s with cTransmission := x }) _ hmode, classifyFrame_eq,
      classifyFrame_eq, hkept, hpairs]
    split
    · rfl
    · exact hforwarded _ _
  · rw [routeSample_outside _ hmode, routeSample_outside (s := { s with cTransmission := x }) _ hmode, hforwarded]

/-! ### The clauses of §3.8 -/

theorem sampleInRange_parts {first others : List Pair} (h : sampleInRange f = true) (hpairs : f.pairs = first ++ others)
    (hfirst : first ≠ []) (hothers : others ≠ []) :
    sampleInRange { f with pairs := first } = true ∧ sampleInRange { f with pairs := others } = true := by
  simp only [sampleInRange, hpairs, List.length_append, Bool.and_eq_true, decide_eq_true_eq] at h ⊢
  obtain ⟨⟨hsource, -⟩, hmost⟩ := h
  have hlength := List.length_pos_of_ne_nil hfirst
  have hlength' := List.length_pos_of_ne_nil hothers
  exact ⟨⟨⟨hsource, hlength⟩, by omega⟩, ⟨hsource, hlength'⟩, by omega⟩

/-- At most one frame joins the forward queue, with a subsequence of the pairs. -/
theorem routeSample_forwardQueue (hrange : sampleInRange f = true) (s : State) :
    (routeSample f s).forwardQueue = s.forwardQueue
    ∨ ∃ kept : List Pair, kept ≠ [] ∧ kept.Sublist f.pairs
        ∧ (routeSample f s).forwardQueue = s.forwardQueue ++ [sampleAsFrame { f with pairs := kept }] := by
  have hkept := classifyPairs_sublist f.source f.pairs s
  have hqueue := (classifyPairs_queues f.source f.pairs s).1
  by_cases hmode : s.mode = .filtering
  · rw [routeSample_filtering f hmode]
    by_cases hnone : (classifyPairs f.source f.pairs s).2 = []
    · rw [classifyFrame_eq, if_pos hnone]
      exact .inl hqueue
    · rcases Nat.lt_or_ge s.forwardQueue.length 8 with hroom | hfull
      · rw [classifyFrame_of_room hroom, rewrittenFrames, if_neg hnone]
        exact .inr ⟨_, hnone, hkept, rfl⟩
      · rw [classifyFrame_of_full hfull, if_neg hnone, raiseFlag_forwardQueue]
        exact .inl hqueue
  · rw [routeSample_outside f hmode]
    rcases Nat.lt_or_ge s.forwardQueue.length 8 with hroom | hfull
    · rw [forwarded_of_room hroom]
      exact .inr ⟨f.pairs, pairs_ne_nil hrange, .refl _, rfl⟩
    · rw [forwarded_of_full hfull, raiseFlag_forwardQueue]
      exact .inl rfl

/-- A frame of several pairs is its first pairs as a frame of their own, then the others as one. -/
theorem exec_sample_append {first others : List Pair} {t u : State} (hreceives : Receives .s s) (hrange : sampleInRange f = true)
    (hbusy : ¬ isUp s.cLink ∨ s.cTransmission ≠ none) (hmode : s.mode = .filtering) (hroom : s.forwardQueue.length < 8)
    (hpairs : f.pairs = first ++ others) (hfirst : first ≠ []) (hothers : others ≠ [])
    (ht : exec (.sample { f with pairs := first }) s = .next t)
    (hu : exec (.sample { f with pairs := others }) { t with forwardQueue := s.forwardQueue } = .next u) :
    ∃ kept more : List Pair, kept.Sublist first ∧ more.Sublist others
      ∧ t.forwardQueue = s.forwardQueue ++ rewrittenFrames f kept ∧ u.forwardQueue = s.forwardQueue ++ rewrittenFrames f more
      ∧ exec (.sample f) s = .next { u with forwardQueue := s.forwardQueue ++ rewrittenFrames f (kept ++ more) } := by
  obtain ⟨hrangeFirst, hrangeOthers⟩ := sampleInRange_parts hrange hpairs hfirst hothers
  let s0 := setLink .s (.up 0 false) s
  let u0 := (classifyPairs f.source first s0).1
  have hu0 : u0 = { s0 with bindings := u0.bindings, store := u0.store, owedNotices := u0.owedNotices, flags := u0.flags } :=
    classifyPairs_writes f.source first s0
  have hqueue : u0.forwardQueue = s.forwardQueue := (classifyPairs_queues f.source first s0).1
  have hmodeFirst : u0.mode = .filtering := by rw [hu0]; exact hmode
  have htFirst : t = { u0 with forwardQueue := s.forwardQueue ++ rewrittenFrames f (classifyPairs f.source first s0).2 } := by
    exact Host.Outcome.next.inj
      (ht.symm.trans (exec_sample_of_room (f := { f with pairs := first }) hreceives hrangeFirst hbusy hmode hroom))
  have hrest : { t with forwardQueue := s.forwardQueue } = u0 := by rw [htFirst, ← hqueue]
  have hreceivesRest : Receives .s u0 := by
    rw [hu0]
    exact ⟨hreceives.1, rfl⟩
  have hbusyRest : ¬ isUp u0.cLink ∨ u0.cTransmission ≠ none := by
    rw [hu0]
    exact hbusy
  have hlink : setLink .s (.up 0 false) u0 = u0 := by
    rw [hu0]
    rfl
  have huRest : u = { (classifyPairs f.source others u0).1 with
      forwardQueue := s.forwardQueue ++ rewrittenFrames f (classifyPairs f.source others u0).2 } := by
    rw [hrest, exec_sample_of_room (f := { f with pairs := others }) hreceivesRest hrangeOthers hbusyRest hmodeFirst
      (by rwa [hqueue]), hlink, hqueue] at hu
    exact (Host.Outcome.next.inj hu).symm
  refine ⟨(classifyPairs f.source first s0).2, (classifyPairs f.source others u0).2, classifyPairs_sublist _ _ _,
    classifyPairs_sublist _ _ _, by rw [htFirst], by rw [huRest], ?_⟩
  rw [exec_sample_of_room hreceives hrange hbusy hmode hroom, hpairs, classifyPairs_append, huRest]

/-- At a full forward queue a frame does what it would do with room, and its rewritten frame is lost. -/
theorem routeSample_of_full (hfull : 8 ≤ s.forwardQueue.length) :
    routeSample f s =
      if (routeSample f { s with forwardQueue := [] }).forwardQueue = [] then
        { routeSample f { s with forwardQueue := [] } with forwardQueue := s.forwardQueue }
      else raiseFlag .fwdLossC { routeSample f { s with forwardQueue := [] } with forwardQueue := s.forwardQueue } := by
  by_cases hmode : s.mode = .filtering
  · obtain ⟨hapart, hkept⟩ := classifyPairs_apart (q := s.pending) (fq := []) (ct := s.cTransmission) (s := s)
      (t := { s with forwardQueue := [] }) f.source f.pairs rfl
    have hqueue := (classifyPairs_queues f.source f.pairs s).1
    have htransmission := (classifyPairs_queues f.source f.pairs s).2
    have hpending : (classifyPairs f.source f.pairs s).1.pending = s.pending := by rw [classifyPairs_writes]
    have hback : { (classifyPairs f.source f.pairs { s with forwardQueue := [] }).1 with forwardQueue := s.forwardQueue } =
        (classifyPairs f.source f.pairs s).1 := by
      rw [hapart, ← hqueue, ← hpending, ← htransmission]
    rw [routeSample_filtering _ hmode, routeSample_filtering (s := { s with forwardQueue := [] }) _ hmode,
      classifyFrame_of_full hfull, classifyFrame_of_room (s := { s with forwardQueue := [] }) (Nat.succ_pos 7), hkept]
    simp only [List.nil_append, hback]
    by_cases hnone : (classifyPairs f.source f.pairs s).2 = [] <;> simp [rewrittenFrames, hnone]
  · rw [routeSample_outside _ hmode, routeSample_outside (s := { s with forwardQueue := [] }) _ hmode, forwarded_of_full hfull,
      forwarded_of_room (s := { s with forwardQueue := [] }) (Nat.succ_pos 7), if_neg (by simp)]

theorem eq_with_cTransmission {s : State} {transmission : Option CTransmission} (h : s.cTransmission = transmission) :
    s = { s with cTransmission := transmission } := by rw [← h]

/-- Settles O16. -/
theorem rewrittenFrameIsSubsequence : Obligations.RewrittenFrameIsSubsequence := by
  intro f s hreceives hrange rewritten
  refine ⟨fun hbusy => ⟨fun t ht => ?one, fun first others t u hmode hroom hpairs hfirst hothers ht hu => ?parts,
    fun t hfull ht => ?full⟩, fun hup hidle inProgress u hu => ?idle⟩
  case one =>
    rw [exec_sample_busy hreceives hrange hbusy] at ht
    obtain rfl := Host.Outcome.next.inj ht
    exact routeSample_forwardQueue hrange _
  case parts => exact exec_sample_append hreceives hrange hbusy hmode hroom hpairs hfirst hothers ht hu
  case full =>
    rw [exec_sample_busy (s := { s with forwardQueue := [] }) hreceives hrange hbusy] at ht
    obtain rfl := Host.Outcome.next.inj ht
    rw [exec_sample_busy hreceives hrange hbusy]
    exact congrArg Host.Outcome.next (routeSample_of_full (s := setLink .s (.up 0 false) s) hfull)
  case idle =>
    rw [exec_sample_busy (s := { s with cTransmission := some inProgress }) hreceives hrange (.inr (Option.some_ne_none _))] at hu
    obtain rfl := Host.Outcome.next.inj hu
    rw [exec_sample hreceives hrange]
    refine next_grant ?_
    have hback := routeSample_with_transmission (f := f) (s := setLink .s (.up 0 false) s) (some inProgress)
    have hnone : (routeSample f (setLink .s (.up 0 false) s)).cTransmission = none := (routeSample_links _ _).2.trans hidle
    exact (eq_with_cTransmission hnone).trans (congrArg (fun u : State => { u with cTransmission := none }) hback).symm

end Sys2Proof.Machine

/-! Requests that are executed (R168): how a command's block answers, what is refused before any block sees it, and the
response cache (R169). -/

namespace Sys2Proof.Machine

set_option Elab.async false

open Sys2Proof.Safety

variable {s : State} {r : Request} {code : BitVec 8}

/-! ### A request executed and answered -/

/-- The state at which an accepted request is executed: the C port's fault count is 0. -/
abbrev accepted (s : State) : State := setLink .c (.up 0 false) s

theorem executeRequest_fits (c : Command) (broadcast : Bool) (s : State) (hfits : operandCountFits c r.operands = true) :
    executeRequest (commandCode c) r broadcast s = runCommand c r.tag broadcast r.operands s := by
  rw [executeRequest_command, if_pos hfits]

theorem exec_executes (c : Command) (h : Executes (commandCode c) r s) :
    exec (requestCommand c r) s =
      .next (grantStep (answerRequest (commandCode c) r (executeRequest (commandCode c) r false (accepted s)))) := by
  rw [exec_requestCommand, receiveRequest_executes h]

/-- A command that its block refuses. -/
theorem exec_refused (c : Command) {status : Status} (h : Executes (commandCode c) r s)
    (hfits : operandCountFits c r.operands = true)
    (hrun : runCommand c r.tag false r.operands (accepted s) = refuse status (accepted s)) :
    exec (requestCommand c r) s = .next (grantStep (answered (commandCode c) r.tag status [] s)) := by
  rw [exec_executes c h, executeRequest_fits c _ _ hfits, hrun, answerRequest_refuse h.2.2.1]

/-- A command that its block executes and answers, with the responses and the cache as they were. -/
theorem exec_answered (c : Command) {status : Status} {results : List (Option Word)} {t : State}
    (h : Executes (commandCode c) r s) (hfits : operandCountFits c r.operands = true)
    (hrun : runCommand c r.tag false r.operands (accepted s) = (t, .answer status results))
    (hresponses : t.responses = s.responses) :
    exec (requestCommand c r) s =
      .next (grantStep { t with
        responses := t.responses ++ [{ tag := r.tag, code := commandCode c, status := status, results := results }]
        cache := cacheWith { tag := r.tag, code := commandCode c, status := status, results := results } t.cache }) := by
  rw [exec_executes c h, executeRequest_fits c _ _ hfits, hrun, answerRequest_of_room (by rw [hresponses]; exact h.2.2.1)]

/-- A state that no sweep keeps from being written. -/
theorem accepted_quiet (h : s.sweep = none) : ¬ (accepted s).sweep.isSome = true := by
  rw [setLink_sweep, h]
  exact Bool.false_ne_true

/-- A failed check, as the blocks write it. -/
theorem not_eq_true_iff {b : Bool} {p : Prop} (h : b = true ↔ p) : (!b) = true ↔ ¬ p := by
  rw [Bool.not_eq_true', Bool.eq_false_iff, ne_eq, h]

/-! ### Refused before any block -/

theorem commandCode_mem_definedCodes (c : Command) : commandCode c ∈ definedCodes := by cases c <;> decide

theorem commandOf_undefined (h : code ∉ definedCodes) : commandOf code = none := by
  refine List.find?_eq_none.mpr fun c _ hc => h ?_
  rw [← beq_iff_eq.mp hc]
  exact commandCode_mem_definedCodes c

/-- Settles O35, by whether the part defines the command code. -/
theorem unknownAndMalformed : Obligations.UnknownAndMalformed := by
  refine ⟨fun code r s hundefined h => ?unknown, fun c r s h hcount => ?malformed⟩
  case unknown =>
    have hexec : exec (.unknownCommand code r) s = receiveRequest code r s := rfl
    rw [hexec, receiveRequest_executes h, executeRequest, commandOf_undefined hundefined]
    exact next_grant (answerRequest_refuse h.2.2.1)
  case malformed =>
    rw [exec_executes c h, executeRequest_command, hcount, if_neg Bool.false_ne_true, answerRequest_refuse h.2.2.1]

theorem eq_eight_of_length {α : Type} {l : List α} (h : l.length = 8) :
    ∃ a b c d e f g i, l = [a, b, c, d, e, f, g, i] := by
  match l, h with
  | [a, b, c, d, e, f, g, i], _ => exact ⟨a, b, c, d, e, f, g, i, rfl⟩

/-- The commands that write bindings, profiles or the mode (R38). -/
abbrev writingCommands : List Command :=
  [.loadProfile, .clearProfile, .copyActive, .commit, .bind, .unbind, .modifyBinding, .setMode]

/-- R38: during a sweep a writing command is refused before its block looks at an operand. -/
theorem runCommand_busy {c : Command} {operands : List Word} (tag : BitVec 8) (broadcast : Bool) (hc : c ∈ writingCommands)
    (hfits : operandCountFits c operands = true) (hsweep : s.sweep.isSome = true) :
    runCommand c tag broadcast operands s = refuse .busy s := by
  simp only [List.mem_cons, List.not_mem_nil, or_false] at hc
  rcases hc with rfl | rfl | rfl | rfl | rfl | rfl | rfl | rfl
  case inl =>
    rw [operandCountFits] at hfits
    unfold loadCountFits at hfits
    split at hfits
    · exact if_pos hsweep
    · cases hfits
  case inr.inl =>
    obtain ⟨slot, rfl⟩ := List.length_eq_one_iff.mp (beq_iff_eq.mp hfits)
    exact if_pos hsweep
  case inr.inr.inl =>
    obtain rfl := List.eq_nil_of_length_eq_zero (beq_iff_eq.mp hfits)
    exact if_pos hsweep
  case inr.inr.inr.inl =>
    obtain rfl := List.eq_nil_of_length_eq_zero (beq_iff_eq.mp hfits)
    exact if_pos hsweep
  case inr.inr.inr.inr.inl =>
    obtain ⟨_, _, _, _, _, _, _, _, rfl⟩ := eq_eight_of_length (beq_iff_eq.mp hfits)
    exact if_pos hsweep
  case inr.inr.inr.inr.inr.inl =>
    obtain ⟨index, rfl⟩ := List.length_eq_one_iff.mp (beq_iff_eq.mp hfits)
    exact if_pos hsweep
  case inr.inr.inr.inr.inr.inr.inl =>
    rw [operandCountFits] at hfits
    unfold modifyCountFits at hfits
    split at hfits
    · exact if_pos hsweep
    · cases hfits
  case inr.inr.inr.inr.inr.inr.inr =>
    obtain ⟨code, rfl⟩ := List.length_eq_one_iff.mp (beq_iff_eq.mp hfits)
    exact if_pos hsweep

/-- Settles O36. -/
theorem writesAreBusyDuringSweep : Obligations.WritesAreBusyDuringSweep := fun c r s hc hsweep h hfits =>
  exec_refused c h hfits (runCommand_busy r.tag false hc hfits (by exact hsweep))

/-! ### The response cache -/

theorem cacheWith_of_tag {r : Response} {cache : List Response} (h : ∃ e ∈ cache, e.tag = r.tag) :
    cacheWith r cache = cache.filter (fun e => e.tag != r.tag) ++ [r] := by
  obtain ⟨e, he, htag⟩ := h
  exact if_pos (List.any_eq_true.mpr ⟨e, he, by simpa using htag⟩)

theorem cacheWith_of_new_tag {r : Response} {cache : List Response} (h : ∀ e ∈ cache, e.tag ≠ r.tag) :
    cacheWith r cache = if cache.length < 4 then cache ++ [r] else cache.tail ++ [r] := by
  refine if_neg fun hany => ?_
  obtain ⟨e, he, htag⟩ := List.any_eq_true.mp hany
  exact h e he (beq_iff_eq.mp htag)

/-- With distinct tags, exactly one entry has a tag that stands in the cache. -/
theorem length_of_distinct_tags {cache : List Response} {tag : BitVec 8} (hdistinct : (cache.map Response.tag).Pairwise (· ≠ ·))
    (h : ∃ e ∈ cache, e.tag = tag) : cache.length = (cache.filter fun e => e.tag != tag).length + 1 := by
  obtain ⟨e, he, htag⟩ := h
  have hone : cache.countP (fun e => e.tag == tag) = 1 := by
    have hcount := List.count_eq_one_of_mem hdistinct (List.mem_map.mpr ⟨e, he, htag⟩)
    rwa [List.count, List.countP_map] at hcount
  have hsplit := List.length_eq_countP_add_countP (l := cache) fun e => e.tag == tag
  rw [hone] at hsplit
  rw [hsplit, ← List.countP_eq_length_filter, Nat.add_comm]
  congr 2
  funext e
  rw [bne, decide_not, Bool.decide_eq_true]

/-- Settles O39, by whether the tag stands in the cache and whether it has room. -/
theorem cacheEntryIsMade : Obligations.CacheEntryIsMade := by
  intro r cache hcapacity hdistinct
  by_cases htag : ∃ e ∈ cache, e.tag = r.tag
  case pos =>
    have hlength := length_of_distinct_tags hdistinct htag
    obtain ⟨e, he, hsame⟩ := htag
    refine ⟨_, cacheWith_of_tag ⟨e, he, hsame⟩, List.filter_sublist, by omega, fun e he => ?_, fun _ => hlength,
      fun hnew => absurd hsame (hnew e he), fun _ _ hnew => absurd hsame (hnew e he)⟩
    simpa using (List.mem_filter.mp he).2
  case neg =>
    have hnew : ∀ e ∈ cache, e.tag ≠ r.tag := fun e he hsame => htag ⟨e, he, hsame⟩
    have hmade := cacheWith_of_new_tag hnew
    rcases Nat.lt_or_ge cache.length 4 with hroom | hfull
    · rw [if_pos hroom] at hmade
      refine ⟨cache, hmade, .refl _, by omega, hnew, fun h => absurd h htag, fun _ _ => rfl, fun _ _ _ hfull => by omega⟩
    · rw [if_neg (by omega)] at hmade
      refine ⟨cache.tail, hmade, List.tail_sublist _, by rw [List.length_tail]; omega, fun e he => hnew e (List.mem_of_mem_tail he),
        fun h => absurd h htag, fun _ hroom => by omega, fun oldest rest _ _ hcache => by rw [hcache, List.tail_cons]⟩

end Sys2Proof.Machine

/-! Node control and the node's settings: the chain reset (§10.4), SET_MODE (§10.5), the node restart (§10.6), and the commands
that read the node or replace a setting (§4.2, §5.5, §6.5, §6.6, §8.4, §9.5). -/

namespace Sys2Proof.Machine

set_option Elab.async false

open Sys2Proof.Safety

variable {s : State} {r : Request}

/-! ### The chain reset -/

/-- After a chain reset the C port has nothing to send. -/
theorem deliveryReady_of_unaddressed (h : s.mode = .unaddressed) : deliveryReady s = false := by
  rw [deliveryReady, h]
  rfl

theorem passedOn_empty_queue {f : Frame} (hidle : s.sTransmission = none) (hqueue : s.returnQueue = []) :
    passedOn f s =
      { s with
        sTransmission := if isUp s.sLink then some f else none
        returnQueue := if isUp s.sLink then [] else [f] } := by
  by_cases hup : isUp s.sLink = true
  · rw [passedOn_of_empty hup hidle hqueue, if_pos hup, if_pos hup, ← hqueue]
  · rw [passedOn_of_busy (.inl hup) (by rw [hqueue]; exact Nat.succ_pos 7), if_neg hup, if_neg hup, hqueue, ← hidle,
      List.nil_append]

/-- Settles O32. -/
theorem chainResetState : Obligations.ChainResetState := by
  intro a ext payload s hreceives hfits frame
  obtain ⟨n, assembling, hlink⟩ := up_of_receives hreceives
  have hexec : exec (.chainReset a ext payload) s =
      whenRunning (receiveFrame .c (decide (payload.length ≤ 64)) (routeReset a ext payload)) s := rfl
  have hroute : routeReset a ext payload (accepted s) = passedOn frame (chainResetBlocks (accepted s)) :=
    placeReturn_eq_passedOn _ _
  rw [hexec, whenRunning_running _ hreceives.1, decide_eq_true hfits, receiveFrame_accepted _ hlink, hroute,
    passedOn_empty_queue rfl rfl, grantStep_of_nothing rfl rfl (deliveryReady_of_unaddressed rfl)]
  rfl

/-! ### SET_MODE -/

theorem changeMode_same {m : Mode} (h : s.mode = m) : changeMode m s = s := by
  rw [changeMode_eq, if_neg fun h' => Mode.noConfusion (h'.1.symm.trans (h.trans h'.2)), ← h]


theorem changeMode_transparent : changeMode .transparent s = { s with mode := .transparent } := by
  rw [changeMode_eq, if_neg fun h => Mode.noConfusion h.2]

theorem changeMode_returns (h : s.mode = .transparent) :
    changeMode .filtering s = { s with mode := .filtering, bindings := s.bindings.mapContents (unsettle .resumed) } := by
  rw [changeMode_eq, if_pos ⟨h, rfl⟩]

theorem exec_setMode {code : Word} {t : State} {status : Status} {results : List (Option Word)} (h : Executes 4 r s)
    (hoperands : r.operands = [code]) (hrun : setModeRequest [code] (accepted s) = (t, .answer status results))
    (hresponses : t.responses = s.responses) :
    exec (.setMode r) s =
      .next (grantStep { t with
        responses := t.responses ++ [{ tag := r.tag, code := 4, status := status, results := results }]
        cache := cacheWith { tag := r.tag, code := 4, status := status, results := results } t.cache }) :=
  exec_answered .setMode h (by rw [hoperands]; rfl) (by rw [hoperands]; exact hrun) hresponses

/-- Settles O33, by the code and the mode before. -/
theorem setModeChangesMode : Obligations.SetModeChangesMode := by
  intro r code s h hoperands hsweep
  have hquiet := accepted_quiet hsweep
  refine ⟨fun hcode => ?transparent, fun hcode hmode => ?stays, fun hcode hmode => ?returns, fun h1 h2 => ?refused⟩
  case transparent =>
    have hrun : setModeRequest [code] (accepted s) =
        ({ accepted s with mode := .transparent }, .answer .ok [present (modeCode s.mode)]) := by
      rw [setModeRequest, if_neg hquiet, if_pos hcode, changeMode_transparent]
      rfl
    exact exec_setMode h hoperands hrun rfl
  case stays =>
    have hrun : setModeRequest [code] (accepted s) = (accepted s, .answer .ok [present 2]) := by
      rw [setModeRequest, if_neg hquiet, if_neg (by rw [hcode]; decide), if_pos hcode,
        changeMode_same (s := accepted s) hmode, setLink_mode, hmode]
      rfl
    exact exec_setMode h hoperands hrun rfl
  case returns =>
    have hrun : setModeRequest [code] (accepted s) =
        ({ accepted s with mode := .filtering, bindings := s.bindings.mapContents (unsettle .resumed) },
          .answer .ok [present 1]) := by
      rw [setModeRequest, if_neg hquiet, if_neg (by rw [hcode]; decide), if_pos hcode, changeMode_returns (s := accepted s) hmode,
        setLink_mode, hmode]
      rfl
    exact exec_setMode h hoperands hrun rfl
  case refused =>
    have hrun : setModeRequest [code] (accepted s) = refuse .range (accepted s) := by
      rw [setModeRequest, if_neg hquiet, if_neg h1, if_neg h2]
    exact exec_setMode h hoperands hrun rfl

/-! ### The node restart -/

/-- Setting a flag reads no cache entry. -/
theorem raiseFlag_with_cache (f : Flag) (cache : List Response) (s : State) :
    raiseFlag f { s with cache := cache } = { raiseFlag f s with cache := cache } := by
  unfold raiseFlag offerNotice
  repeat' split
  all_goals rfl

theorem abortSweep_of_room (hroom : s.responses.length < 4) (t : State) (ht : t.responses = s.responses) :
    abortSweep s.sweep t = { t with responses := t.responses ++ abortedCommit s } := by
  unfold abortSweep abortedCommit
  cases s.sweep with
  | none => rw [List.append_nil]
  | some w =>
    dsimp only
    cases w.broadcast with
    | true => simp
    | false =>
      have hqueue : t.responses.length < Config.agentCapacity := ht ▸ hroom
      simp only [Bool.false_eq_true, if_false, queueResponse, if_pos hqueue]
      rfl

theorem restartRequest_eq (hroom : s.responses.length < 4) :
    restartRequest [] s = (afterRestart s, .answer .ok [present s.store.length]) := by
  rw [restartRequest, abortSweep_of_room hroom (restartBlocks s) rfl]
  unfold afterRestart restartBlocks transmissionAfterRestart
  rfl

/-- Settles O34, by the room that the ABORTED response leaves. -/
theorem restartState : Obligations.RestartState := by
  intro r s h hoperands own restarted
  have hfits : operandCountFits .restart r.operands = true := by rw [hoperands]; rfl
  have hrun : runCommand .restart r.tag false r.operands (accepted s) =
      (afterRestart (accepted s), .answer .ok [present s.store.length]) := by
    rw [hoperands]
    exact restartRequest_eq (s := accepted s) h.2.2.1
  have hexec : exec (.restart r) s = .next (grantStep (respond own (afterRestart (accepted s)))) := by
    refine (exec_executes .restart h).trans ?_
    rw [executeRequest_fits .restart _ _ hfits, hrun]
    rfl
  rw [hexec]
  refine ⟨fun hroom => next_grant ?_, fun hfull => next_grant ?_⟩
  · exact respond_of_room (s := afterRestart (accepted s)) own (by rw [← List.length_append] at hroom; exact hroom)
  · have hqueue : 4 ≤ (afterRestart (accepted s)).responses.length := by
      rw [← List.length_append] at hfull
      exact hfull.ge
    rw [respond_of_full own hqueue]
    have hcache := raiseFlag_with_cache .mgmtOverrun [] { restarted with responses := s.responses ++ abortedCommit s }
    have hsame : afterRestart (accepted s) = { restarted with responses := s.responses ++ abortedCommit s, cache := [] } := rfl
    rw [hsame, hcache]
    rfl

/-! ### Commands that read the node or replace a setting -/

theorem modeCode_of_addressed {m : Mode} (h : m ≠ .unaddressed) : modeCode m = if m = .filtering then 2 else 1 := by
  cases m with
  | unaddressed => exact absurd rfl h
  | transparent => rfl
  | filtering => rfl

theorem ofNat_toNat_eq_setWidth {v w : Nat} (x : BitVec v) : BitVec.ofNat w x.toNat = x.setWidth w :=
  BitVec.eq_of_toNat_eq (by rw [BitVec.toNat_ofNat, BitVec.toNat_setWidth])

theorem present_toNat {w : Nat} (v : BitVec w) : present v.toNat = some (v.setWidth 16) := by
  rw [present, ofNat_toNat_eq_setWidth]

theorem numberedCount_eq_length (store : List Record) :
    numberedCount store = (store.filter fun x => x.delivery ≠ .unsent).length := by
  rw [numberedCount, List.countP_eq_length_filter]
  congr 1
  refine List.filter_congr fun x _ => ?_
  rw [recordSequence]
  cases x.delivery <;> rfl

/-- Settles O40. -/
theorem identifyAndReadStatus : Obligations.IdentifyAndReadStatus := by
  intro r s hoperands
  refine ⟨fun h => ?identify, fun h => ?status⟩
  case identify =>
    rw [← modeCode_of_addressed h.1.2.1]
    exact exec_answered .identify (t := accepted s) h (by rw [hoperands]; rfl) (by rw [hoperands]; rfl) rfl
  case status =>
    rw [← modeCode_of_addressed h.1.2.1, ← present_toNat, ← numberedCount_eq_length]
    have hsweep : present (if s.sweep = none then 0 else 1) = bitResult s.sweep.isSome := by cases s.sweep <;> rfl
    rw [hsweep]
    exact exec_answered .readStatus (t := accepted s) h (by rw [hoperands]; rfl) (by rw [hoperands]; rfl) rfl

theorem not_inRange_of_above {low high : Nat} {w : Word} (h : high < w.toNat) : (!inRange low high w) = true := by
  rw [not_eq_true_iff inRange_iff]
  omega

theorem inRange_of_le {high : Nat} {w : Word} (h : w.toNat ≤ high) : ¬ (!inRange 0 high w) = true := by
  rw [not_eq_true_iff inRange_iff]
  omega

/-- Settles O41, by the mask. -/
theorem clearStatusClearsMask : Obligations.ClearStatusClearsMask := by
  intro r mask s h hoperands
  have hfits : operandCountFits .clearStatus r.operands = true := by rw [hoperands]; rfl
  refine ⟨fun hmask => ⟨clearFlags s.flags (mask.setWidth 9), ?_, fun f => ?_⟩, fun hmask => ?_⟩
  · rw [← present_toNat]
    exact exec_answered .clearStatus (t := { accepted s with flags := clearFlags s.flags (mask.setWidth 9) }) h hfits
      (by rw [hoperands]; exact if_neg (inRange_of_le hmask)) rfl
  · have hcode : flagCode f < 9 := by cases f <;> decide
    rw [hasFlag, clearFlags, BitVec.getLsbD_and, BitVec.getLsbD_not, BitVec.getLsbD_setWidth, decide_eq_true hcode, Bool.true_and,
      Bool.true_and, hasFlag]
  · exact exec_refused .clearStatus h hfits (by rw [hoperands]; exact if_pos (not_inRange_of_above hmask))

theorem defaultPolicyCode_eq (p : DefaultPolicy) : defaultPolicyCode p = if p = .pass then 0 else 3 := by cases p <;> rfl

/-- Settles O42, by the command and the range of its operand. -/
theorem settingCommandsReplaceSetting : Obligations.SettingCommandsReplaceSetting := by
  intro r w s hoperands
  refine ⟨fun h => ⟨fun hw => ?_, fun hw => ?_⟩, fun h => ⟨fun hw => ?_, fun hw => ?_⟩,
    fun h => ⟨fun hw => ?_, fun hw => ?_, fun h0 h3 => ?_⟩⟩
  · rw [ofNat_toNat_eq_setWidth]
    exact exec_answered .setTick (t := { accepted s with tickPeriod := w.setWidth 2 }) h
      (by rw [hoperands]; rfl) (by rw [hoperands]; exact if_neg (inRange_of_le hw)) rfl
  · exact exec_refused .setTick h (by rw [hoperands]; rfl) (by rw [hoperands]; exact if_pos (not_inRange_of_above hw))
  · rw [ofNat_toNat_eq_setWidth]
    exact exec_answered .setNotices (t := { accepted s with noticeMask := w.setWidth 9 }) h
      (by rw [hoperands]; rfl) (by rw [hoperands]; exact if_neg (inRange_of_le hw)) rfl
  · exact exec_refused .setNotices h (by rw [hoperands]; rfl) (by rw [hoperands]; exact if_pos (not_inRange_of_above hw))
  · rw [← defaultPolicyCode_eq]
    exact exec_answered .setDefault (t := { accepted s with defaultPolicy := .pass }) h (by rw [hoperands]; rfl)
      (by rw [hoperands]; exact if_pos hw) rfl
  · rw [← defaultPolicyCode_eq]
    have hnot : ¬ w = 0 := by rw [hw]; decide
    exact exec_answered .setDefault (t := { accepted s with defaultPolicy := .drop }) h (by rw [hoperands]; rfl)
      (by rw [hoperands]; exact (if_neg hnot).trans (if_pos hw)) rfl
  · exact exec_refused .setDefault h (by rw [hoperands]; rfl) (by rw [hoperands]; exact (if_neg h0).trans (if_neg h3))

/-- Settles O43, by the command, the ranges and the reporter. -/
theorem deliveryCommands : Obligations.DeliveryCommands := by
  intro r s
  refine ⟨fun timeout limit hoperands h => ⟨fun hrange => ?replaced, fun hrange => ?refused⟩,
    fun hoperands h => ⟨fun hstalled => ?stalled, fun hother => ?other⟩⟩
  case replaced =>
    have hin : ¬ (!(inRange 1 255 timeout && inRange 1 15 limit)) = true := by
      rw [Bool.not_eq_true', Bool.eq_false_iff, ne_eq, not_not, Bool.and_eq_true, inRange_iff, inRange_iff]
      omega
    have hmin : (if limit.toNat < s.retryCount then limit.toNat else s.retryCount) = min s.retryCount limit.toNat := by
      split <;> omega
    rw [hmin]
    exact exec_answered .setDelivery
      (t := { accepted s with
        ackTimeout := timeout.toNat, retryLimit := limit.toNat, retryCount := min s.retryCount limit.toNat })
      h (by rw [hoperands]; rfl) (by rw [hoperands]; exact if_neg hin) rfl
  case refused =>
    have hout : (!(inRange 1 255 timeout && inRange 1 15 limit)) = true := by
      rw [Bool.not_eq_true', Bool.eq_false_iff, ne_eq, Bool.and_eq_true, inRange_iff, inRange_iff]
      omega
    exact exec_refused .setDelivery h (by rw [hoperands]; rfl) (by rw [hoperands]; exact if_pos hout)
  case stalled =>
    have hrun : runCommand .clearStall r.tag false r.operands (accepted s) =
        ({ accepted s with reporter := .awaiting, retryCount := 0 }, .answer .ok [present 2]) := by
      rw [hoperands, runCommand, clearStallRequest, setLink_reporter, hstalled]
      rfl
    exact exec_answered .clearStall h (by rw [hoperands]; rfl) hrun rfl
  case other =>
    have hrun : runCommand .clearStall r.tag false r.operands (accepted s) =
        (accepted s, .answer .ok [present (reporterCode s.reporter)]) := by
      rw [hoperands, runCommand, clearStallRequest, setLink_reporter]
      cases hreporter : s.reporter with
      | stalled => exact absurd hreporter hother
      | idle => rfl
      | awaiting => rfl
    exact exec_answered .clearStall h (by rw [hoperands]; rfl) hrun rfl

end Sys2Proof.Machine

/-! The binding commands BIND, UNBIND and MODIFY_BINDING (§1.4): the checks in order, and what passes them. -/

namespace Sys2Proof.Machine

set_option Elab.async false

open Sys2Proof.Safety

variable {s : State} {r : Request}

/-! ### Operand codes -/

/-- A reading of codes that is constant from 3 on, as a word gives the code. -/
theorem code_of_word {α : Type} {f : Nat → α} (hlast : ∀ n, f (n + 3) = f 3) (w : Word) :
    f w.toNat = if w = 0 then f 0 else if w = 1 then f 1 else if w = 2 then f 2 else f 3 := by
  by_cases h0 : w = 0
  · rw [if_pos h0, h0]
    rfl
  by_cases h1 : w = 1
  · rw [if_neg h0, if_pos h1, h1]
    rfl
  by_cases h2 : w = 2
  · rw [if_neg h0, if_neg h1, if_pos h2, h2]
    rfl
  have hcode : 3 ≤ w.toNat := by
    have hzero : w.toNat ≠ 0 := fun h => h0 (BitVec.eq_of_toNat_eq h)
    have hone : w.toNat ≠ 1 := fun h => h1 (BitVec.eq_of_toNat_eq h)
    have htwo : w.toNat ≠ 2 := fun h => h2 (BitVec.eq_of_toNat_eq h)
    omega
  rw [if_neg h0, if_neg h1, if_neg h2, ← Nat.sub_add_cancel hcode, hlast]

theorem policyOf_eq (w : Word) :
    policyOf w.toNat = if w = 0 then .pass else if w = 1 then .decimate else if w = 2 then .onChange else .drop :=
  code_of_word (f := policyOf) (fun _ => rfl) w

theorem edgeOf_eq (w : Word) :
    edgeOf w.toNat = if w = 0 then .none else if w = 1 then .rising else if w = 2 then .falling else .both :=
  code_of_word (f := edgeOf) (fun _ => rfl) w

theorem beq_one_eq_decide (w : Word) : (w == 1) = decide (w = 1) := beq_eq_decide ..

/-! ### BIND -/

theorem bindInRange_iff {index source channel profile policy factor report : Word} :
    bindInRange index source channel profile policy factor report = true ↔
      index.toNat ≤ 255 ∧ (1 ≤ source.toNat ∧ source.toNat ≤ 62) ∧ channel.toNat ≤ 31 ∧ profile.toNat ≤ 31
        ∧ policy.toNat ≤ 3 ∧ (1 ≤ factor.toNat ∧ factor.toNat ≤ 255) ∧ report.toNat ≤ 1 := by
  simp only [bindInRange, Bool.and_eq_true, inRange_iff, Nat.zero_le, true_and, and_assoc]

theorem eq_setWidth_iff {v : Nat} {x : BitVec v} {w : Word} (h : w.toNat < 2 ^ v) : x = w.setWidth v ↔ x.toNat = w.toNat := by
  rw [← BitVec.toNat_inj, BitVec.toNat_setWidth, Nat.mod_eq_of_lt h]

theorem findKey_isSome_iff {source : BitVec 6} {channel : BitVec 5} :
    (findKey source channel s).isSome = true ↔ ∃ e ∈ s.bindings, e.2.source = source ∧ e.2.channel = channel := by
  simp only [findKey, List.find?_isSome, hasKey, Bool.and_eq_true, beq_iff_eq]

/-- The key of an operand pair in range, as the table's entries hold it. -/
theorem findKey_operands_iff {source channel : Word} (hsource : source.toNat ≤ 62) (hchannel : channel.toNat ≤ 31) :
    (findKey (source.setWidth 6) (channel.setWidth 5) s).isSome = true
      ↔ ∃ e ∈ s.bindings, e.2.source.toNat = source.toNat ∧ e.2.channel.toNat = channel.toNat := by
  rw [findKey_isSome_iff]
  simp only [eq_setWidth_iff (show source.toNat < 2 ^ 6 by omega), eq_setWidth_iff (show channel.toNat < 2 ^ 5 by omega)]

theorem newBinding_eq (source channel profile policy factor report limit : Word) :
    newBinding source channel profile policy factor report limit =
      { source := BitVec.ofNat 6 source.toNat, channel := BitVec.ofNat 5 channel.toNat, profile := Fin.ofNat 32 profile.toNat
        policy := if policy = 0 then .pass else if policy = 1 then .decimate else if policy = 2 then .onChange else .drop
        factor := factor.toNat, report := decide (report = 1), limit := limit.toNat
        track := .unsettled, reason := .bound, lastValue := none, decimation := 0, countdown := limit.toNat
        latches := none, resync := false, seen := 0, transitions := 0 } := by
  rw [newBinding, policyOf_eq, ofNat_toNat_eq_setWidth, ofNat_toNat_eq_setWidth, beq_one_eq_decide]
  rfl

/-- Settles O44, check by check. -/
theorem bindChecksAndBinds : Obligations.BindChecksAndBinds := by
  intro r index source channel profile policy factor report limit s h hoperands hsweep
  have hfits : operandCountFits .bind r.operands = true := by rw [hoperands]; rfl
  have hquiet := accepted_quiet hsweep
  have hpasses : ∀ {p : Prop}, (bindInRange index source channel profile policy factor report = true ↔ p) → p →
      ¬ (!bindInRange index source channel profile policy factor report) = true := fun hiff hp => by
    rw [hiff.mpr hp]
    exact Bool.false_ne_true
  refine ⟨fun hout => ?range, fun hin hbound => ?inUse, fun hin hfree hkey => ?conflict, fun hin hfree hkey hslot => ?noEntry,
    fun hin hfree hkey hslot => ?binds⟩
  case range =>
    have hfails : (!bindInRange index source channel profile policy factor report) = true := by
      rw [Bool.not_eq_true', Bool.eq_false_iff, ne_eq, bindInRange_iff]
      exact hout
    exact exec_refused .bind h hfits (by rw [hoperands]; exact (if_neg hquiet).trans (if_pos hfails))
  case inUse =>
    have hin' := hpasses bindInRange_iff hin
    exact exec_refused .bind h hfits (by
      rw [hoperands]
      exact (if_neg hquiet).trans ((if_neg hin').trans (if_pos (Option.isSome_iff_ne_none.mpr hbound))))
  case conflict =>
    have hin' := hpasses bindInRange_iff hin
    have hfree' : ¬ ((accepted s).bindings.lookup (indexOf index)).isSome = true := fun hsome =>
      Option.isSome_iff_ne_none.mp hsome hfree
    have hkey' := (findKey_operands_iff (s := accepted s) hin.2.1.2 hin.2.2.1).mpr hkey
    exact exec_refused .bind h hfits (by
      rw [hoperands]
      exact (if_neg hquiet).trans ((if_neg hin').trans ((if_neg hfree').trans (if_pos hkey'))))
  case noEntry =>
    have hin' := hpasses bindInRange_iff hin
    have hfree' : ¬ ((accepted s).bindings.lookup (indexOf index)).isSome = true := fun hsome =>
      Option.isSome_iff_ne_none.mp hsome hfree
    have hkey' := mt (findKey_operands_iff (s := accepted s) hin.2.1.2 hin.2.2.1).mp hkey
    exact exec_refused .bind h hfits (by
      rw [hoperands]
      exact (if_neg hquiet).trans ((if_neg hin').trans ((if_neg hfree').trans ((if_neg hkey').trans
        (if_pos (Option.isNone_iff_eq_none.mpr hslot))))))
  case binds =>
    have hin' := hpasses bindInRange_iff hin
    have hfree' : ¬ ((accepted s).bindings.lookup (indexOf index)).isSome = true := fun hsome =>
      Option.isSome_iff_ne_none.mp hsome hfree
    have hkey' := mt (findKey_operands_iff (s := accepted s) hin.2.1.2 hin.2.2.1).mp hkey
    have hslot' : ¬ ((accepted s).activeBank.lookup (slotOf profile)).isNone = true := fun hnone =>
      hslot (Option.isNone_iff_eq_none.mp hnone)
    have hrun : runCommand .bind r.tag false r.operands (accepted s) =
        (setBinding (indexOf index) (newBinding source channel profile policy factor report limit) (accepted s), .answer .ok []) := by
      rw [hoperands]
      exact (if_neg hquiet).trans ((if_neg hin').trans ((if_neg hfree').trans ((if_neg hkey').trans (if_neg hslot'))))
    rw [newBinding_eq] at hrun
    exact exec_answered .bind h hfits hrun rfl

/-! ### UNBIND -/

theorem unsentOf_eq_decide (i : Fin 256) (x : Record) :
    unsentOf i x = decide (x.delivery = .unsent ∧ (bodySubject x.body).map Subject.index = some i) := by
  rw [Bool.eq_iff_iff, unsentOf, Bool.and_eq_true, beq_iff_eq, decide_eq_true_eq]
  refine and_congr_right fun _ => ?_
  cases bodySubject x.body <;> simp

/-- Settles O45, check by check. -/
theorem unbindFreesEntry : Obligations.UnbindFreesEntry := by
  intro r index s h hoperands hsweep i removed
  have hfits : operandCountFits .unbind r.operands = true := by rw [hoperands]; rfl
  have hquiet := accepted_quiet hsweep
  have hremoved : removed = unsentOf i := funext fun x => (unsentOf_eq_decide i x).symm
  refine ⟨fun hout => ?range, fun hin hfree => ?noEntry, fun hin hbound => ?frees⟩
  case range =>
    exact exec_refused .unbind h hfits (by
      rw [hoperands]
      exact (if_neg hquiet).trans (if_pos (not_inRange_of_above hout)))
  case noEntry =>
    exact exec_refused .unbind h hfits (by
      rw [hoperands]
      exact (if_neg hquiet).trans ((if_neg (inRange_of_le hin)).trans (if_pos (Option.isNone_iff_eq_none.mpr hfree))))
  case frees =>
    have hbound' : ¬ ((accepted s).bindings.lookup i).isNone = true := fun hnone => hbound (Option.isNone_iff_eq_none.mp hnone)
    have hrun : runCommand .unbind r.tag false r.operands (accepted s) =
        ({ accepted s with
            bindings := s.bindings.remove i
            store := s.store.filter fun x => !unsentOf i x },
          .answer .ok [present (s.store.countP (unsentOf i))]) := by
      rw [hoperands]
      exact (if_neg hquiet).trans ((if_neg (inRange_of_le hin)).trans (if_neg hbound'))
    refine ⟨s.bindings.remove i, ?_, ?_, Table.lookup_remove_self _ _, fun j hj => Table.lookup_remove_of_ne _ hj⟩
    · rw [hremoved, ← List.countP_eq_length_filter]
      exact exec_answered .unbind h hfits hrun rfl
    · exact List.filter_congr fun e _ => by rw [bne, beq_eq_decide, decide_not]

/-! ### MODIFY_BINDING -/

/-- The bits of a mask are those of the fields whose weights it sums. -/
theorem testBit_weights (a b c d e : Bool) (k : Fin 5) :
    ((if a = true then 1 else 0) + (if b = true then 2 else 0) + (if c = true then 4 else 0) + (if d = true then 8 else 0)
      + (if e = true then 16 else 0)).testBit k = [a, b, c, d, e].get k := by
  revert a b c d e k
  decide

section

variable {mask : Word} {profile policy factor report limit : Option Word}

/-- Each of the mask's five bits names its field. -/
theorem mask_names
    (hmask : mask.toNat % 32 =
      (if profile.isSome then 1 else 0) + (if policy.isSome then 2 else 0) + (if factor.isSome then 4 else 0)
        + (if report.isSome then 8 else 0) + (if limit.isSome then 16 else 0)) :
    mask.getLsbD 0 = profile.isSome ∧ mask.getLsbD 1 = policy.isSome ∧ mask.getLsbD 2 = factor.isSome
      ∧ mask.getLsbD 3 = report.isSome ∧ mask.getLsbD 4 = limit.isSome := by
  have hbit : ∀ k : Fin 5, mask.getLsbD k =
      [profile.isSome, policy.isSome, factor.isSome, report.isSome, limit.isSome].get k := fun k => by
    have hlow : (mask.toNat % 2 ^ 5).testBit k = mask.toNat.testBit k := by
      rw [Nat.testBit_mod_two_pow, decide_eq_true k.isLt, Bool.true_and]
    rw [← testBit_weights, ← hmask]
    exact hlow.symm
  exact ⟨hbit 0, hbit 1, hbit 2, hbit 3, hbit 4⟩

theorem takeField_isSome (x : Option Word) (rest : List (Option Word)) :
    takeField x.isSome (x :: rest).reduceOption = (x, rest.reduceOption) := by
  cases x <;> rfl

theorem reduceOption_cons_length (x : Option Word) (rest : List (Option Word)) :
    (x :: rest).reduceOption.length = rest.reduceOption.length + if x.isSome then 1 else 0 := by
  cases x <;> rfl

/-- The operands after the mask are read as the fields that it names. -/
theorem readChanges_eq
    (hnames : mask.getLsbD 0 = profile.isSome ∧ mask.getLsbD 1 = policy.isSome ∧ mask.getLsbD 2 = factor.isSome
      ∧ mask.getLsbD 3 = report.isSome ∧ mask.getLsbD 4 = limit.isSome) :
    readChanges mask [profile, policy, factor, report, limit].reduceOption =
      { profile := profile, policy := policy, factor := factor, report := report, limit := limit } := by
  obtain ⟨h0, h1, h2, h3, h4⟩ := hnames
  simp only [readChanges, h0, h1, h2, h3, h4, takeField_isSome]

theorem modifyCountFits_eq (index : Word)
    (hnames : mask.getLsbD 0 = profile.isSome ∧ mask.getLsbD 1 = policy.isSome ∧ mask.getLsbD 2 = factor.isSome
      ∧ mask.getLsbD 3 = report.isSome ∧ mask.getLsbD 4 = limit.isSome) :
    modifyCountFits (index :: mask :: [profile, policy, factor, report, limit].reduceOption) = true := by
  obtain ⟨h0, h1, h2, h3, h4⟩ := hnames
  have hrange : List.range 5 = [0, 1, 2, 3, 4] := rfl
  rw [modifyCountFits, beq_iff_eq, namedFields, ← List.countP_eq_length_filter, hrange]
  simp only [List.countP_cons, List.countP_nil, h0, h1, h2, h3, h4, reduceOption_cons_length, List.reduceOption_nil,
    List.length_nil]

theorem givenInRange_iff {low high : Nat} {x : Option Word} :
    givenInRange low high x = true ↔ ∀ w ∈ x, low ≤ w.toNat ∧ w.toNat ≤ high := by
  cases x with
  | none => simp [givenInRange]
  | some w => simp [givenInRange, inRange_iff]

end

/-- What follows from the difference between the entry before and after, field by field (R19). -/
theorem followChanges_eq (old new : Binding) :
    followChanges old new =
      { new with
        decimation := if new.policy = old.policy ∧ new.factor = old.factor then new.decimation else 0
        countdown := if new.profile = old.profile ∧ new.limit = old.limit then new.countdown else new.limit
        track := if new.profile = old.profile then new.track else .unsettled
        reason := if new.profile = old.profile then new.reason else .reprofiled
        latches := if new.profile = old.profile then new.latches else none } := by
  have hcounted : (new.policy ≠ old.policy ∨ new.factor ≠ old.factor) ↔ ¬ (new.policy = old.policy ∧ new.factor = old.factor) :=
    not_and_or.symm
  unfold followChanges unsettle
  simp only [hcounted, ne_eq, ite_not]
  by_cases hprofile : new.profile = old.profile
  · by_cases hlimit : new.limit = old.limit
    · have hboth : new.profile = old.profile ∧ new.limit = old.limit := ⟨hprofile, hlimit⟩
      simp only [if_pos hprofile, if_pos hlimit, if_pos hboth]
      split <;> rfl
    · have hboth : ¬ (new.profile = old.profile ∧ new.limit = old.limit) := fun h => hlimit h.2
      simp only [if_pos hprofile, if_neg hlimit, if_neg hboth]
      split <;> rfl
  · have hboth : ¬ (new.profile = old.profile ∧ new.limit = old.limit) := fun h => hprofile h.1
    simp only [if_neg hprofile, if_neg hboth]
    split <;> split <;> rfl

/-- Settles O46: the mask names the fields, then check by check. -/
theorem modifyBindingChangesFields : Obligations.ModifyBindingChangesFields := by
  intro r index mask profile policy factor report limit s h hsweep hoperands hmask i range
  have hnames := mask_names hmask
  have hchanges := readChanges_eq hnames
  have hfits : operandCountFits .modifyBinding r.operands = true := by
    rw [hoperands]
    exact modifyCountFits_eq index hnames
  have hquiet := accepted_quiet hsweep
  have hrange : (inRange 0 255 index && inRange 0 31 mask
      && changesInRange { profile := profile, policy := policy, factor := factor, report := report, limit := limit }) = true ↔ range := by
    simp only [changesInRange, Bool.and_eq_true, inRange_iff, givenInRange_iff, Nat.zero_le, true_and, and_assoc]
    rfl
  have hrun : runCommand .modifyBinding r.tag false r.operands (accepted s) =
      if (!(inRange 0 255 index && inRange 0 31 mask
        && changesInRange { profile := profile, policy := policy, factor := factor, report := report, limit := limit })) = true then
        refuse .range (accepted s)
      else
        match (accepted s).bindings.lookup i with
        | none => refuse .noEntry (accepted s)
        | some b =>
          if profile.any fun w => (s.activeBank.lookup (slotOf w)).isNone then refuse .noEntry (accepted s)
          else
            (setBinding i
              (modifiedBinding { profile := profile, policy := policy, factor := factor, report := report, limit := limit } b)
              (accepted s), .answer .ok []) := by
    rw [hoperands, runCommand, modifyBindingRequest, hchanges]
    exact if_neg hquiet
  have hpasses : range → ¬ (!(inRange 0 255 index && inRange 0 31 mask
      && changesInRange { profile := profile, policy := policy, factor := factor, report := report, limit := limit })) = true := by
    intro hin
    rw [hrange.mpr hin]
    exact Bool.false_ne_true
  refine ⟨fun hout => ?range, fun hin hfree => ?free, fun b hin hbound => ⟨fun hnamed hempty => ?slot, fun hslot => ?changes⟩⟩
  case range =>
    refine exec_refused .modifyBinding h hfits (hrun.trans (if_pos ?_))
    rw [Bool.not_eq_true', Bool.eq_false_iff, ne_eq, hrange]
    exact hout
  case free =>
    refine exec_refused .modifyBinding h hfits (hrun.trans ((if_neg (hpasses hin)).trans ?_))
    rw [setLink_bindings, hfree]
  case slot =>
    refine exec_refused .modifyBinding h hfits (hrun.trans ((if_neg (hpasses hin)).trans ?_))
    obtain ⟨w, rfl⟩ := Option.isSome_iff_exists.mp hnamed
    rw [setLink_bindings, hbound]
    exact if_pos (Option.isNone_iff_eq_none.mpr hempty)
  case changes =>
    have hnamed : ¬ (profile.any fun w => (s.activeBank.lookup (slotOf w)).isNone) = true := by
      rcases hslot with rfl | hslot
      · exact Bool.false_ne_true
      · cases profile with
        | none => exact Bool.false_ne_true
        | some w => exact fun hnone => hslot (Option.isNone_iff_eq_none.mp hnone)
    have hexec := exec_answered .modifyBinding (t := setBinding i
      (modifiedBinding { profile := profile, policy := policy, factor := factor, report := report, limit := limit } b) (accepted s))
      h hfits (hrun.trans ((if_neg (hpasses hin)).trans (by rw [setLink_bindings, hbound]; exact if_neg hnamed))) rfl
    rw [modifiedBinding, followChanges_eq, writeChanges] at hexec
    simp only [policyOf_eq, beq_one_eq_decide] at hexec
    exact hexec

end Sys2Proof.Machine

/-! The profile commands and the commit sweep (§2.3, §2.4). -/

namespace Sys2Proof.Machine

set_option Elab.async false

open Sys2Proof.Safety

variable {s : State} {r : Request}

/-! ### LOAD_PROFILE -/

theorem present_toNat_word (w : Word) : present w.toNat = some w := by rw [present_toNat, BitVec.setWidth_eq]

section

variable {slot form hysteresis persistence edge base step count : Word} {thresholds : List Word}

/-- The ranges common to both forms, and the form's. -/
theorem loadInRange_iff :
    loadInRange slot form hysteresis persistence edge = true ↔
      (slot.toNat ≤ 31 ∧ hysteresis.toNat ≤ 4095 ∧ (1 ≤ persistence.toNat ∧ persistence.toNat ≤ 15) ∧ edge.toNat ≤ 3)
        ∧ form.toNat ≤ 1 := by
  simp only [loadInRange, Bool.and_eq_true, inRange_iff]
  omega

theorem toNat_le_one_iff {w : Word} : w.toNat ≤ 1 ↔ w = 0 ∨ w = 1 := by
  rw [← BitVec.toNat_inj, ← BitVec.toNat_inj]
  show w.toNat ≤ 1 ↔ w.toNat = 0 ∨ w.toNat = 1
  omega

theorem loadProfileRequest_explicit (hquiet : ¬ s.sweep.isSome = true) (hform : form ≠ 1) (k : Word) :
    loadProfileRequest (slot :: form :: hysteresis :: persistence :: edge :: k :: thresholds) s =
      if (!loadInRange slot form hysteresis persistence edge) = true then refuse .range s
      else loadExplicit slot hysteresis persistence edge thresholds s := by
  simp only [loadProfileRequest, if_neg hquiet, if_neg hform]

theorem loadProfileRequest_span (hquiet : ¬ s.sweep.isSome = true) :
    loadProfileRequest [slot, 1, hysteresis, persistence, edge, base, step, count] s =
      if (!loadInRange slot 1 hysteresis persistence edge) = true then refuse .range s
      else loadSpan slot hysteresis persistence edge base step count s := by
  rw [loadProfileRequest, if_neg hquiet, if_pos rfl]

theorem loadExplicit_eq :
    loadExplicit slot hysteresis persistence edge thresholds s =
      if thresholds.Pairwise (fun a b => a.signed < b.signed) then
        storeProfile slot
          { thresholds := thresholds, hysteresis := hysteresis.toNat, persistence := persistence.toNat
            edge := edgeOf edge.toNat, origin := .explicit } s
      else refuse .malformed s := by
  have hiff : strictlyIncreasing thresholds = true ↔ thresholds.Pairwise (fun a b => a.signed < b.signed) :=
    ⟨pairwise_of_strictlyIncreasing, strictlyIncreasing_of_pairwise⟩
  unfold loadExplicit
  by_cases h : thresholds.Pairwise fun a b => a.signed < b.signed
  · rw [if_pos h, if_neg fun hnot => (not_eq_true_iff hiff).mp hnot h]
  · rw [if_neg h, if_pos ((not_eq_true_iff hiff).mpr h)]

/-- Every threshold of a span lies in the sample range where its last one does not exceed it. -/
theorem span_inRange_iff (hstep : 1 ≤ step.toNat) (hcount : 1 ≤ count.toNat) :
    (spanThresholds base step count).all inSampleRange = true
      ↔ base.signed + ((count.toNat : Int) - 1) * step.toNat ≤ 32767 := by
  have hlow : -32768 ≤ base.signed := BitVec.le_toInt base
  rw [spanThresholds_eq, List.all_eq_true]
  simp only [List.mem_map, List.mem_range, forall_exists_index, and_imp, forall_apply_eq_imp_iff₂, inSampleRange,
    Bool.and_eq_true, decide_eq_true_eq]
  constructor
  · intro h
    obtain ⟨-, hlast⟩ := h (count.toNat - 1) (by omega)
    rwa [Int.ofNat_sub hcount] at hlast
  · intro hlast j hj
    have hnonneg : 0 ≤ (j : Int) * step.toNat := by positivity
    have hmul : (j : Int) * step.toNat ≤ ((count.toNat : Int) - 1) * step.toNat :=
      Int.mul_le_mul_of_nonneg_right (by omega) (by omega)
    omega

theorem span_words (base step count : Word) :
    (spanThresholds base step count).map (BitVec.ofInt 16) =
      (List.range count.toNat).map fun j => base + BitVec.ofNat 16 j * step := by
  rw [spanThresholds_eq, List.map_map]
  refine List.map_congr_left fun j _ => ?_
  rw [Function.comp_apply, BitVec.ofInt_add, BitVec.ofInt_mul, BitVec.ofInt_toInt, BitVec.ofInt_natCast, BitVec.ofInt_natCast,
    ofNat_toNat_eq_setWidth, BitVec.setWidth_eq]

end

/-- Settles O48, form by form and check by check. -/
theorem loadProfileWritesShadow : Obligations.LoadProfileWritesShadow := by
  intro r slot hysteresis persistence edge s h hsweep inRange i e range malformed
  have hquiet := accepted_quiet hsweep
  have hedge : edgeOf edge.toNat = e := edgeOf_eq edge
  refine ⟨fun form k ts hform hoperands hk1 hk15 hlength => ?explicit, fun base step count hoperands => ?span⟩
  case explicit =>
    have hfits : operandCountFits .loadProfile r.operands = true := by
      rw [hoperands]
      show loadCountFits (slot :: form :: hysteresis :: persistence :: edge :: k :: ts) = true
      rw [loadCountFits, if_neg hform, inRange_iff.mpr ⟨hk1, hk15⟩, Bool.true_and, beq_iff_eq]
      simp only [List.length_cons]
      omega
    have hcommand : runCommand .loadProfile r.tag false r.operands (accepted s) =
        loadProfileRequest (slot :: form :: hysteresis :: persistence :: edge :: k :: ts) (accepted s) := by
      rw [hoperands]
      rfl
    have hrun := hcommand.trans (loadProfileRequest_explicit hquiet hform k)
    rw [loadExplicit_eq] at hrun
    have hrange : loadInRange slot form hysteresis persistence edge = true ↔ inRange ∧ form = 0 :=
      loadInRange_iff.trans (and_congr_right fun _ => toNat_le_one_iff.trans (or_iff_left hform))
    refine ⟨fun hout => ?_, fun hin hzero hinc => ?_, fun hin hzero hnot => ?_⟩
    · exact exec_refused .loadProfile h hfits (hrun.trans (if_pos ((not_eq_true_iff hrange).mpr (by tauto))))
    · have hpass := mt (not_eq_true_iff hrange).mp (not_not.mpr ⟨hin, hzero⟩)
      have hstored := hrun.trans ((if_neg hpass).trans (if_pos hinc))
      rw [storeProfile, hlength, present_toNat_word, hedge] at hstored
      exact exec_answered .loadProfile h hfits hstored rfl
    · have hpass := mt (not_eq_true_iff hrange).mp (not_not.mpr ⟨hin, hzero⟩)
      exact exec_refused .loadProfile h hfits (hrun.trans ((if_neg hpass).trans (if_neg hnot)))
  case span =>
    intro last stepFits countFits
    have hfits : operandCountFits .loadProfile r.operands = true := by
      rw [hoperands]
      rfl
    have hcommand : runCommand .loadProfile r.tag false r.operands (accepted s) =
        loadProfileRequest [slot, 1, hysteresis, persistence, edge, base, step, count] (accepted s) := by
      rw [hoperands]
      rfl
    have hrun := hcommand.trans (loadProfileRequest_span hquiet)
    rw [loadSpan] at hrun
    have hrange : loadInRange slot 1 hysteresis persistence edge = true ↔ inRange :=
      loadInRange_iff.trans (and_iff_left (toNat_le_one_iff.mpr (.inr rfl)))
    have hpass := fun hin : inRange => mt (not_eq_true_iff hrange).mp (not_not.mpr hin)
    have hstep := fun hfits : stepFits => mt (not_eq_true_iff (inRange_iff (w := step))).mp (not_not.mpr hfits)
    have hcount := fun hfits : countFits => mt (not_eq_true_iff (inRange_iff (w := count))).mp (not_not.mpr hfits)
    refine ⟨fun hout => ?_, fun hin hs hc => ?_, fun hin hs hc hl => ?_, fun hin hs hc hl => ?_⟩
    · refine exec_refused .loadProfile h hfits (hrun.trans ?_)
      by_cases hin : inRange
      · exact (if_neg (hpass hin)).trans
          (if_pos ((not_eq_true_iff inRange_iff).mpr (hout.resolve_left (not_not.mpr hin))))
      · exact if_pos ((not_eq_true_iff hrange).mpr hin)
    · exact exec_refused .loadProfile h hfits (hrun.trans ((if_neg (hpass hin)).trans ((if_neg (hstep hs)).trans
        (if_pos ((not_eq_true_iff inRange_iff).mpr hc)))))
    · have hspan := (not_eq_true_iff (span_inRange_iff (base := base) hs.1 hc.1)).mpr (not_le.mpr hl)
      exact exec_refused .loadProfile h hfits (hrun.trans ((if_neg (hpass hin)).trans ((if_neg (hstep hs)).trans
        ((if_neg (hcount hc)).trans (if_pos hspan)))))
    · have hspan := mt (not_eq_true_iff (span_inRange_iff (base := base) hs.1 hc.1)).mp (not_not.mpr hl)
      have hstored := hrun.trans ((if_neg (hpass hin)).trans ((if_neg (hstep hs)).trans ((if_neg (hcount hc)).trans (if_neg hspan))))
      rw [storeProfile, List.length_map, spanThresholds_length, present_toNat_word, hedge, span_words] at hstored
      exact exec_answered .loadProfile h hfits hstored rfl

/-! ### CLEAR_PROFILE, COPY_ACTIVE and READ_PROFILE -/

theorem present_slot {slot : Word} (h : slot.toNat ≤ 31) : present (slotOf slot).val = some slot := by
  have hval : (slotOf slot).val = slot.toNat := Nat.mod_eq_of_lt (by omega)
  rw [hval, present_toNat_word]

theorem profileUsers_eq (i : Fin 32) (s : State) :
    present (profileUsers i s) = present (s.bindings.filter fun e => e.2.profile = i).length := by
  rw [profileUsers, List.countP_eq_length_filter]
  congr 3

theorem readProfile_inRange_iff {bank slot : Word} :
    (inRange 0 1 bank && inRange 0 31 slot) = true ↔ bank.toNat ≤ 1 ∧ slot.toNat ≤ 31 := by
  simp only [Bool.and_eq_true, inRange_iff, Nat.zero_le, true_and]

theorem readProfileRequest_content {bank slot : Word} {content : Option Profile} (hbank : bank.toNat ≤ 1) (hslot : slot.toNat ≤ 31)
    (hcontent : (if bank = 0 then s.activeBank.lookup (slotOf slot) else s.shadowBank.lookup (slotOf slot)) = content) :
    readProfileRequest [bank, slot] s =
      (s, .answer .ok (profileResults bank (slotOf slot) (profileUsers (slotOf slot) s) content)) := by
  have hpass := mt (not_eq_true_iff readProfile_inRange_iff).mp (not_not.mpr ⟨hbank, hslot⟩)
  simp only [readProfileRequest, if_neg hpass, hcontent]

/-- Settles O49, command by command. -/
theorem profileStoreCommands : Obligations.ProfileStoreCommands := by
  intro r s
  refine ⟨fun slot h hoperands hsweep => ⟨fun hout => ?clearRange, fun hin => ?clears⟩, fun h hoperands hsweep => ?copies,
    fun bank slot h hoperands => ⟨fun hout => ?readRange, fun hbank hslot hempty => ?empty, fun p hbank hslot hcontent => ?reads⟩⟩
  case clearRange =>
    exact exec_refused .clearProfile h (by rw [hoperands]; rfl) (by
      rw [hoperands]
      exact (if_neg (accepted_quiet hsweep)).trans (if_pos (not_inRange_of_above hout)))
  case clears =>
    refine ⟨s.shadowBank.remove (slotOf slot), ?_, Table.lookup_remove_self _ _, fun j hj => Table.lookup_remove_of_ne _ hj⟩
    exact exec_answered .clearProfile (t := { accepted s with shadowBank := s.shadowBank.remove (slotOf slot) }) h
      (by rw [hoperands]; rfl) (by
        rw [hoperands]
        exact (if_neg (accepted_quiet hsweep)).trans (if_neg (inRange_of_le hin))) rfl
  case copies =>
    exact exec_answered .copyActive (t := { accepted s with shadowBank := s.activeBank }) h (by rw [hoperands]; rfl)
      (by rw [hoperands]; exact if_neg (accepted_quiet hsweep)) rfl
  case readRange =>
    exact exec_refused .readProfile h (by rw [hoperands]; rfl) (by
      rw [hoperands]
      exact if_pos ((not_eq_true_iff readProfile_inRange_iff).mpr (by omega)))
  case empty =>
    have hrun := readProfileRequest_content (s := accepted s) hbank hslot hempty
    rw [← profileUsers_eq, ← present_slot hslot]
    exact exec_answered .readProfile (t := accepted s) h (by rw [hoperands]; rfl) (by rw [hoperands]; exact hrun) rfl
  case reads =>
    have hrun := readProfileRequest_content (s := accepted s) hbank hslot hcontent
    rw [← profileUsers_eq, ← present_slot hslot]
    exact exec_answered .readProfile (t := accepted s) h (by rw [hoperands]; rfl) (by rw [hoperands]; exact hrun) rfl

/-! ### COMMIT -/

/-- The lowest entry that names an empty slot of the shadow bank. -/
theorem commitConflict_lowest (hwf : s.bindings.wf) {i : Fin 256} {b : Binding} (hb : s.bindings.lookup i = some b)
    (hempty : s.shadowBank.lookup b.profile = none)
    (hlower : ∀ j c, s.bindings.lookup j = some c → j < i → (s.shadowBank.lookup c.profile).isSome) :
    commitConflict s = some i := by
  obtain ⟨front, rest, hplace⟩ := List.append_of_mem (Table.mem_of_lookup hb)
  have hfront : front.find? (fun e => (s.shadowBank.lookup e.2.profile).isNone) = none := by
    refine List.find?_eq_none.mpr fun e he => ?_
    have hlt : e.1 < i := by
      rw [hplace, Table.wf, List.map_append, List.pairwise_append] at hwf
      exact hwf.2.2 e.1 (List.mem_map_of_mem he) i (by simp)
    have hlookup : s.bindings.lookup e.1 = some e.2 := Table.lookup_of_mem hwf (by rw [hplace]; simp [he])
    simpa [Option.isSome_iff_ne_none] using hlower e.1 e.2 hlookup hlt
  rw [commitConflict, hplace, List.find?_append, hfront, Option.none_or, List.find?_cons_of_pos (by simp [hempty])]
  rfl

theorem commitConflict_of_slots (h : ∀ e ∈ s.bindings, (s.shadowBank.lookup e.2.profile).isSome) : commitConflict s = none := by
  rw [commitConflict, Option.map_eq_none_iff, List.find?_eq_none]
  exact fun e he => by simpa [Option.isSome_iff_ne_none] using h e he

theorem commitRequest_begins {tag : BitVec 8} {broadcast : Bool} (hquiet : s.sweep = none)
    (h : ∀ e ∈ s.bindings, (s.shadowBank.lookup e.2.profile).isSome) :
    commitRequest tag broadcast [] s = ({ s with sweep := some { tag := tag, broadcast := broadcast } }, .later) := by
  rw [commitRequest, if_neg (by rw [hquiet]; exact Bool.false_ne_true), commitConflict_of_slots h]

theorem commitRequest_conflict {tag : BitVec 8} {broadcast : Bool} {i : Fin 256} (hquiet : s.sweep = none)
    (h : commitConflict s = some i) : commitRequest tag broadcast [] s = (s, .answer .conflict [present i.val]) := by
  rw [commitRequest, if_neg (by rw [hquiet]; exact Bool.false_ne_true), h]

/-- Settles O50, by whether an entry names an empty slot. -/
theorem commitChecksAndBegins : Obligations.CommitChecksAndBegins := by
  intro r s h hoperands hsweep hkeys
  have hfits : operandCountFits .commit r.operands = true := by rw [hoperands]; rfl
  refine ⟨fun hslots => ?begins, fun i b hb hempty hlower => ?conflict⟩
  case begins =>
    have hrun := commitRequest_begins (tag := r.tag) (broadcast := false) (s := accepted s) hsweep fun e he =>
      hslots e.1 e.2 (Table.lookup_of_mem hkeys.1 he)
    refine (exec_executes .commit h).trans ?_
    rw [executeRequest_fits .commit _ _ hfits, hoperands]
    exact next_grant (congrArg (answerRequest (commandCode .commit) r) hrun)
  case conflict =>
    have hconflict : commitConflict (accepted s) = some i := commitConflict_lowest (s := accepted s) hkeys.1 hb hempty hlower
    exact exec_answered .commit (t := accepted s) h hfits
      (by rw [hoperands]; exact commitRequest_conflict (s := accepted s) hsweep hconflict) rfl

/-! ### The end of a sweep -/

theorem ladderChanged_iff {b : Binding} :
    ladderChanged s b = true ↔
      (s.activeBank.lookup b.profile).map (fun p => (p.thresholds, p.hysteresis, p.persistence))
        ≠ (s.shadowBank.lookup b.profile).map (fun p => (p.thresholds, p.hysteresis, p.persistence)) := bne_iff_ne

/-- Settles O51, by the sweep in progress and the room for the response. -/
theorem sweepEndExchangesBanks : Obligations.SweepEndExchangesBanks := by
  intro s hrunning differs exchanged response
  have hexec : exec .commitSweepEnd s = .next (grantStep (sweepEndStep s)) := whenRunning_running _ hrunning
  have hdiffers : ∀ b, ladderChanged s b = decide (differs b) := fun b => by
    rw [Bool.eq_iff_iff, ladderChanged_iff, decide_eq_true_eq]
  have hexchanged : exchangeBanks s = exchanged := by
    have hresettle : resettle s = fun b =>
        if differs b then { b with track := .unsettled, reason := .reprofiled, countdown := b.limit, latches := none } else b := by
      funext b
      rw [resettle, hdiffers, unsettle, if_pos rfl]
      simp only [decide_eq_true_eq]
    rw [exchangeBanks, hresettle]
    rfl
  have hcount : resettleCount s = (s.bindings.filter fun e => decide (differs e.2)).length := by
    rw [resettleCount, List.countP_eq_length_filter]
    simp only [hdiffers]
  rw [hexec]
  refine ⟨fun hnone => ?_, fun tag hsweep => ?_, fun tag hsweep => ?_⟩
  · rw [sweepEndStep, hnone]
  · rw [sweepEndStep, hsweep]
    exact next_grant hexchanged
  · have hstep : sweepEndStep s = respond (response tag) exchanged := by
      rw [sweepEndStep, hsweep, hcount, hexchanged]
      rfl
    rw [hstep]
    exact ⟨fun hroom => next_grant (respond_of_room _ hroom), fun hfull => next_grant (respond_of_full _ hfull)⟩

end Sys2Proof.Machine

/-! Broadcast requests (§9.3): the copy that is passed on, and the three commands that an addressed node then executes. -/

namespace Sys2Proof.Machine

set_option Elab.async false

open Sys2Proof.Safety

variable {s : State} {r : Request} {code : BitVec 8}

/-! ### The copy -/

/-- The state after a request's copy is handed to the return queue. -/
abbrev copied (code : BitVec 8) (r : Request) (s : State) : State := passedOn (requestAsFrame code r) (accepted s)

/-- The copy touches none of the fields that an executed broadcast reads. -/
theorem copied_fields (code : BitVec 8) (r : Request) (s : State) :
    (copied code r s).mode = s.mode ∧ (copied code r s).sweep = s.sweep ∧ (copied code r s).bindings = s.bindings
      ∧ (copied code r s).shadowBank = s.shadowBank ∧ (copied code r s).responses = s.responses := by
  rw [copied, ← placeReturn_eq_passedOn]
  simp

theorem routeRequest_copied (h : s.mode = .unaddressed ∨ (r.address ≠ s.address ∧ r.address ≠ 63)) :
    routeRequest code r (accepted s) = copied code r s := by
  rw [copied, ← placeReturn_eq_passedOn]
  rcases h with hmode | ⟨hown, hbroadcast⟩
  · exact if_pos hmode
  · by_cases hmode : s.mode = .unaddressed
    · exact if_pos hmode
    · exact (if_neg hmode).trans ((if_neg hown).trans (if_neg hbroadcast))

theorem routeRequest_broadcast (hmode : s.mode ≠ .unaddressed) (haddress : r.address = 63) (hown : s.address ≠ 63) :
    routeRequest code r (accepted s) = takeBroadcast code r (copied code r s) := by
  rw [copied, ← placeReturn_eq_passedOn]
  exact (if_neg hmode).trans ((if_neg fun h => hown (h.symm.trans haddress)).trans (if_pos haddress))

theorem executedBroadcast_iff {c : Command} :
    executedBroadcast (commandCode c) = true ↔ c = .setMode ∨ c = .restart ∨ c = .commit := by
  cases c <;> decide

theorem executedBroadcast_undefined (h : code ∉ definedCodes) : executedBroadcast code = false := by
  have hne : ∀ c : Command, (code == commandCode c) = false := fun c =>
    beq_eq_false_iff_ne.mpr fun heq => h (heq ▸ commandCode_mem_definedCodes c)
  rw [executedBroadcast, hne, hne, hne]
  rfl

/-! ### What an addressed node executes -/

theorem takeBroadcast_not_executed (h : executedBroadcast code = false) : takeBroadcast code r s = s :=
  if_neg (Bool.eq_false_iff.mp h)

theorem takeBroadcast_of_full (h : executedBroadcast code = true) (hfull : 4 ≤ s.responses.length) :
    takeBroadcast code r s = raiseFlag .mgmtOverrun s := (if_pos h).trans (if_pos hfull)

/-- What an executed broadcast leaves: a refusal, that of a wrong operand count among them, leaves no trace. -/
def broadcastExecuted (c : Command) (r : Request) (s : State) : State :=
  if operandCountFits c r.operands = true then (runCommand c r.tag true r.operands s).1 else s

theorem broadcastExecuted_fits {c : Command} (h : operandCountFits c r.operands = true) :
    broadcastExecuted c r s = (runCommand c r.tag true r.operands s).1 := if_pos h

theorem takeBroadcast_of_room {c : Command} (h : executedBroadcast (commandCode c) = true) (hroom : s.responses.length < 4) :
    takeBroadcast (commandCode c) r s = broadcastExecuted c r s := by
  have htaken : takeBroadcast (commandCode c) r s = (executeRequest (commandCode c) r true s).1 :=
    (if_pos h).trans (if_neg (not_le.mpr hroom))
  rw [htaken, executeRequest_command, broadcastExecuted]
  split <;> rfl

theorem broadcastExecuted_setMode_stays (h : r.operands.length ≠ 1 ∨ s.sweep ≠ none) : broadcastExecuted .setMode r s = s := by
  unfold broadcastExecuted
  split
  · rename_i hfits
    have hsweep := h.resolve_left fun hcount => hcount (beq_iff_eq.mp hfits)
    show (setModeRequest r.operands s).1 = s
    unfold setModeRequest
    split
    · rw [if_pos (Option.isSome_iff_ne_none.mpr hsweep)]
      rfl
    · rfl
  · rfl

theorem broadcastExecuted_setMode {word : Word} (hoperands : r.operands = [word]) (h : s.sweep = none) :
    broadcastExecuted .setMode r s =
      if word = 1 then changeMode .transparent s else if word = 2 then changeMode .filtering s else s := by
  rw [broadcastExecuted_fits (by rw [hoperands]; rfl), hoperands, runCommand, setModeRequest, if_neg (by rw [h]; exact Bool.false_ne_true)]
  split
  · rfl
  · split <;> rfl

theorem broadcastExecuted_restart_stays (h : r.operands ≠ []) : broadcastExecuted .restart r s = s :=
  if_neg fun hfits => h (List.eq_nil_of_length_eq_zero (beq_iff_eq.mp hfits))

theorem broadcastExecuted_restart (hoperands : r.operands = []) (hroom : s.responses.length < 4) :
    broadcastExecuted .restart r s = afterRestart s := by
  rw [broadcastExecuted_fits (by rw [hoperands]; rfl), hoperands]
  exact congrArg Prod.fst (restartRequest_eq hroom)

theorem broadcastExecuted_commit_stays
    (h : r.operands ≠ [] ∨ s.sweep ≠ none ∨ ∃ e ∈ s.bindings, s.shadowBank.lookup e.2.profile = none) :
    broadcastExecuted .commit r s = s := by
  unfold broadcastExecuted
  split
  · rename_i hfits
    have hstays := h.resolve_left fun hcount => hcount (List.eq_nil_of_length_eq_zero (beq_iff_eq.mp hfits))
    show (commitRequest r.tag true r.operands s).1 = s
    unfold commitRequest
    split
    · split
      · rfl
      · rename_i hquiet
        cases hconflict : commitConflict s with
        | some i => rfl
        | none =>
          rcases hstays with hsweep | ⟨e, he, hempty⟩
          · exact absurd (Option.isSome_iff_ne_none.mpr hsweep) hquiet
          · exact absurd hempty (Option.isSome_iff_ne_none.mp (commitConflict_none hconflict e he))
    · rfl
  · rfl

theorem broadcastExecuted_commit (hoperands : r.operands = []) (h : s.sweep = none)
    (hslots : ∀ e ∈ s.bindings, (s.shadowBank.lookup e.2.profile).isSome) :
    broadcastExecuted .commit r s = { s with sweep := some { tag := r.tag, broadcast := true } } := by
  rw [broadcastExecuted_fits (by rw [hoperands]; rfl), hoperands]
  exact congrArg Prod.fst (commitRequest_begins h hslots)

/-- A request of an undefined command code, for another node or at an UNADDRESSED one. -/
theorem routeRequest_undefined (hundefined : code ∉ definedCodes) (hother : s.mode = .unaddressed ∨ r.address ≠ s.address) :
    routeRequest code r (accepted s) = copied code r s := by
  by_cases hpassed : s.mode = .unaddressed ∨ (r.address ≠ s.address ∧ r.address ≠ 63)
  · exact routeRequest_copied hpassed
  · obtain ⟨hmode, hbroadcast⟩ := not_or.mp hpassed
    have hne := hother.resolve_left hmode
    have haddress : r.address = 63 := not_not.mp fun h => hbroadcast ⟨hne, h⟩
    rw [routeRequest_broadcast hmode haddress fun h => hne (haddress.trans h.symm),
      takeBroadcast_not_executed (executedBroadcast_undefined hundefined)]

/-- Settles O38: the copy, then the command by the tests that it meets. -/
theorem broadcastRequests : Obligations.BroadcastRequests := by
  refine ⟨fun code r s harrives hundefined hother => ?undefined, fun c r s harrives => ?defined⟩
  case undefined =>
    exact (receiveRequest_arrives harrives).trans (next_grant (routeRequest_undefined hundefined hother))
  intro passed leaves
  obtain ⟨hmodeCopied, hsweepCopied, hbindingsCopied, hshadowCopied, hresponsesCopied⟩ :
      passed.mode = s.mode ∧ passed.sweep = s.sweep ∧ passed.bindings = s.bindings ∧ passed.shadowBank = s.shadowBank
        ∧ passed.responses = s.responses := copied_fields (commandCode c) r s
  have hleaves : ∀ t, routeRequest (commandCode c) r (accepted s) = t → leaves t := fun t ht =>
    (exec_requestCommand c r s).trans ((receiveRequest_arrives harrives).trans (next_grant ht))
  refine ⟨fun hpassed => hleaves _ (routeRequest_copied hpassed), fun hmode haddress hown => ?_⟩
  have hroute : ∀ t, takeBroadcast (commandCode c) r passed = t → leaves t := fun t ht =>
    hleaves t ((routeRequest_broadcast hmode haddress hown).trans ht)
  refine ⟨fun h1 h2 h3 => hroute _ (takeBroadcast_not_executed ?_), fun hc hfull =>
    hroute _ (takeBroadcast_of_full (executedBroadcast_iff.mpr hc) (hresponsesCopied ▸ hfull)), fun hroom => ?_⟩
  · exact Bool.eq_false_iff.mpr fun h => by have := executedBroadcast_iff.mp h; tauto
  have hexecuted : ∀ t, (c = .setMode ∨ c = .restart ∨ c = .commit) → broadcastExecuted c r passed = t → leaves t :=
    fun t hc ht =>
      hroute t ((takeBroadcast_of_room (executedBroadcast_iff.mpr hc) (hresponsesCopied ▸ hroom)).trans ht)
  refine ⟨fun hc => ?setMode, fun hc => ?restart, fun hc => ?commit⟩
  case setMode =>
    subst hc
    refine ⟨fun hstays => hexecuted _ (.inl rfl) (broadcastExecuted_setMode_stays (hsweepCopied ▸ hstays)),
      fun word hoperands hquiet => ?_⟩
    have hword := broadcastExecuted_setMode hoperands (hsweepCopied.trans hquiet)
    refine ⟨fun h1 h2 => hexecuted _ (.inl rfl) (hword.trans ?_), fun h1 => hexecuted _ (.inl rfl) (hword.trans ?_),
      fun h2 hfiltering => hexecuted _ (.inl rfl) (hword.trans ?_), fun h2 htransparent => hexecuted _ (.inl rfl) (hword.trans ?_)⟩
    · rw [if_neg h1, if_neg h2]
    · rw [if_pos h1, changeMode_transparent]
    · rw [if_neg (by rw [h2]; decide), if_pos h2, changeMode_same (hmodeCopied.trans hfiltering)]
    · rw [if_neg (by rw [h2]; decide), if_pos h2, changeMode_returns (hmodeCopied.trans htransparent), hbindingsCopied]
      rfl
  case restart =>
    subst hc
    exact ⟨fun hoperands => hexecuted _ (.inr (.inl rfl)) (broadcastExecuted_restart_stays hoperands),
      fun hoperands => hexecuted _ (.inr (.inl rfl)) (broadcastExecuted_restart hoperands (hresponsesCopied ▸ hroom))⟩
  case commit =>
    subst hc
    refine ⟨fun hstays => hexecuted _ (.inr (.inr rfl)) (broadcastExecuted_commit_stays ?_),
      fun hoperands hquiet hslots => hexecuted _ (.inr (.inr rfl)) (broadcastExecuted_commit hoperands (hsweepCopied.trans hquiet) ?_)⟩
    · rwa [hsweepCopied, hbindingsCopied, hshadowCopied]
    · rwa [hbindingsCopied, hshadowCopied]

end Sys2Proof.Machine

/-! The words of a frame (§7.2, §7.3): fields side by side are a number in mixed weights, and the receive checks read a frame's
words back as the frame. -/

namespace Sys2Proof.Machine

set_option Elab.async false

open Sys2Proof.Safety

/-! ### Fields side by side -/

theorem toNat_append_weights {m n : Nat} (x : BitVec m) (y : BitVec n) : (x ++ y).toNat = x.toNat * 2 ^ n + y.toNat := by
  rw [BitVec.toNat_append, ← Nat.shiftLeft_add_eq_or_of_lt y.isLt, Nat.shiftLeft_eq]

/-- A word by the number that it holds. -/
theorem word_eq {w : Word} {n : Nat} (h : w.toNat = n) : w = BitVec.ofNat 16 n := by
  rw [← h, ofNat_toNat_eq_setWidth, BitVec.setWidth_eq]

theorem bytes_eq_word (x y : BitVec 8) : (x ++ y : Word) = BitVec.ofNat 16 (256 * x.toNat + y.toNat) :=
  word_eq (by rw [toNat_append_weights]; omega)

theorem toNat_ofNat_of_le {w n bound : Nat} (h : n ≤ bound) (hbound : bound < 2 ^ w) : (BitVec.ofNat w n).toNat = n := by
  rw [BitVec.toNat_ofNat, Nat.mod_eq_of_lt (h.trans_lt hbound)]

/-! ### The header -/

section

variable (f : Frame)

theorem headerWord0_eq :
    headerWord0 f = BitVec.ofNat 16 (4096 * f.kind.toNat + 64 * f.address.toNat + f.payload.length % 64) := by
  refine word_eq ?_
  rw [headerWord0, toNat_append_weights, toNat_append_weights, BitVec.toNat_ofNat]
  omega

theorem headerWord1_eq (h : f.payload.length ≤ 64) :
    headerWord1 f = BitVec.ofNat 16 (2 * f.extension.toNat + f.payload.length / 64) := by
  refine word_eq ?_
  rw [headerWord1, toNat_append_weights, BitVec.toNat_ofNat]
  omega

theorem codedLength_header (h : f.payload.length ≤ 64) : codedLength (headerWord0 f) (headerWord1 f) = f.payload.length := by
  rw [codedLength, headerWord0, headerWord1, BitVec.extractLsb'_append_eq_right, BitVec.extractLsb'_append_eq_right,
    BitVec.toNat_ofNat, BitVec.toNat_ofNat]
  omega

theorem headerWord0_kind : (headerWord0 f).extractLsb' 12 4 = f.kind := by
  rw [headerWord0, BitVec.extractLsb'_append_eq_ite, dif_neg (by omega)]
  exact BitVec.extractLsb'_append_eq_left

theorem headerWord0_address : (headerWord0 f).extractLsb' 6 6 = f.address := by
  rw [headerWord0, BitVec.extractLsb'_append_eq_ite, dif_neg (by omega)]
  exact BitVec.extractLsb'_append_eq_right

theorem headerWord1_extension : (headerWord1 f).extractLsb' 1 15 = f.extension := BitVec.extractLsb'_append_eq_left

/-- The words of a frame under any check word: the frame where it is the CRC, faulty else. -/
theorem readFrame_coveredWords (h : f.payload.length ≤ 64) (check : Word) :
    readFrame (coveredWords f ++ [check]) = if crc (coveredWords f) = check then some f else none := by
  have hlength := codedLength_header f h
  rw [coveredWords, List.cons_append, List.cons_append, readFrame_eq, hlength, headerWord0_kind, headerWord0_address,
    headerWord1_extension]
  simp only [true_and, h]

theorem readFrame_frameWords (h : f.payload.length ≤ 64) : readFrame (frameWords f) = some f := by
  rw [frameWords, readFrame_coveredWords f h, if_pos rfl]

end

/-! ### Samples and requests -/

theorem pairWords_eq (p : Pair) : pairWords p = [BitVec.ofNat 16 p.channel.toNat, p.value] := by
  have hchannel : (0#11 ++ p.channel : Word) = BitVec.ofNat 16 p.channel.toNat :=
    word_eq (by rw [toNat_append_weights, BitVec.toNat_ofNat, Nat.zero_mod, Nat.zero_mul, Nat.zero_add])
  rw [pairWords, hchannel]

theorem readRequest_requestAsFrame (code : BitVec 8) (r : Request) : readRequest (requestAsFrame code r) = some (code, r) := by
  rw [readRequest, requestAsFrame]
  dsimp only
  rw [BitVec.extractLsb'_append_eq_right, BitVec.extractLsb'_append_eq_left]

theorem readPairs_pairWords (pairs : List Pair) : readPairs (pairs.flatMap pairWords) = some pairs := by
  induction pairs with
  | nil => rfl
  | cons p rest ih =>
    have hchannel : (BitVec.ofNat 16 p.channel.toNat).toNat = p.channel.toNat :=
      toNat_ofNat_of_le (Nat.le_of_lt_succ p.channel.isLt) (by decide)
    have hback : (BitVec.ofNat 16 p.channel.toNat).setWidth 5 = p.channel :=
      BitVec.eq_of_toNat_eq (by rw [BitVec.toNat_setWidth, hchannel, Nat.mod_eq_of_lt p.channel.isLt])
    rw [List.flatMap_cons, pairWords_eq, List.cons_append, List.cons_append, List.nil_append, readPairs, hchannel,
      if_pos p.channel.isLt, ih, hback]
    rfl

theorem readSample_sampleAsFrame {f : SampleFrame} (h : sampleInRange f = true) : readSample (sampleAsFrame f) = some f := by
  have hpairs : f.pairs.length ≤ 16 := by
    simp only [sampleInRange, Bool.and_eq_true, decide_eq_true_eq] at h
    exact h.2
  have hcount : ((f.sequence ++ BitVec.ofNat 8 f.pairs.length : Word).extractLsb' 0 8).toNat = f.pairs.length := by
    rw [BitVec.extractLsb'_append_eq_right, toNat_ofNat_of_le hpairs (by decide)]
  have hsequence : (f.sequence ++ BitVec.ofNat 8 f.pairs.length : Word).extractLsb' 8 8 = f.sequence :=
    BitVec.extractLsb'_append_eq_left
  simp only [readSample, sampleAsFrame, readPairs_pairWords, hcount, hsequence]
  exact if_pos ⟨trivial, h⟩

theorem sampleAsFrame_length {f : SampleFrame} (h : sampleInRange f = true) : (sampleAsFrame f).payload.length ≤ 64 := by
  have hpairs : f.pairs.length ≤ 16 := by
    simp only [sampleInRange, Bool.and_eq_true, decide_eq_true_eq] at h
    exact h.2
  have hwords : (f.pairs.flatMap pairWords).length = f.pairs.length * 2 := by
    simp [List.length_flatMap, pairWords]
  rw [sampleAsFrame, List.length_cons, hwords]
  omega

/-! ### The words of a command's frame -/

/-- Accepted words are their frame, received on the port. -/
theorem exec_frameWords {port : Port} {f : Frame} (h : f.payload.length ≤ 64) (s : State) :
    exec (.faultyFrame port { words := frameWords f, closing := .endMarker }) s =
      whenRunning (receiveFrame port (frameAccepted port f) (dispatchFrame port f)) s := by
  have hread : readReception { words := frameWords f, closing := .endMarker } = some f := readFrame_frameWords f h
  have hreceive : receiveWords port { words := frameWords f, closing := .endMarker } =
      receiveFrame port (frameAccepted port f) (dispatchFrame port f) := by
    funext t
    rw [receiveWords, hread]
  show whenRunning (receiveWords port _) s = _
  rw [hreceive]

/-- The words of a request's frame, of any command code. -/
theorem exec_requestWords {code : BitVec 8} {r : Request} (h : r.fits = true) (s : State) :
    exec (.faultyFrame .c { words := frameWords (requestAsFrame code r), closing := .endMarker }) s = receiveRequest code r s := by
  have hlength : (requestAsFrame code r).payload.length ≤ 64 := of_decide_eq_true h
  have haccepted : frameAccepted .c (requestAsFrame code r) = r.fits := by
    rw [frameAccepted, decide_eq_true hlength, h]
    show (readRequest (requestAsFrame code r)).isSome = true
    rw [readRequest_requestAsFrame]
    rfl
  have hroute : dispatchFrame .c (requestAsFrame code r) = routeRequest code r := by
    funext t
    show (match readRequest (requestAsFrame code r) with
      | some (code, r) => routeRequest code r t
      | none => placeReturn (requestAsFrame code r) t) = _
    rw [readRequest_requestAsFrame]
  rw [exec_frameWords hlength, haccepted, hroute, receiveRequest]

/-- Settles O53, command by command. -/
theorem wordsDoWhatCommandsDo : Obligations.WordsDoWhatCommandsDo := by
  refine ⟨fun f s h => ?sample, fun a x ws s h => ⟨?ack, ?enum, ?reset⟩, fun code r s h => ?unknown, fun c r s h => ?command⟩
  case sample =>
    have hread := readSample_sampleAsFrame h
    have hlength := sampleAsFrame_length h
    have haccepted : frameAccepted .s (sampleAsFrame f) = sampleInRange f := by
      rw [frameAccepted, decide_eq_true hlength, show sampleInRange f = true from h]
      show (readSample (sampleAsFrame f)).isSome = true
      rw [hread]
      rfl
    have hroute : dispatchFrame .s (sampleAsFrame f) = routeSample f := by
      funext t
      show (match readSample (sampleAsFrame f) with
        | some sf => routeSample sf t
        | none => placeForward (sampleAsFrame f) t) = _
      rw [hread]
    rw [exec_frameWords hlength, haccepted, hroute]
    rfl
  case ack =>
    rw [exec_frameWords (by exact h)]
    have haccepted : frameAccepted .c ⟨8, a, x, ws⟩ = decide (ws.length ≤ 64) := Bool.and_true _
    rw [haccepted]
    rfl
  case enum =>
    rw [exec_frameWords (by exact h)]
    have haccepted : frameAccepted .c ⟨10, a, x, ws⟩ = decide (ws.length ≤ 64) := Bool.and_true _
    rw [haccepted]
    rfl
  case reset =>
    rw [exec_frameWords (by exact h)]
    have haccepted : frameAccepted .c ⟨11, a, x, ws⟩ = decide (ws.length ≤ 64) := Bool.and_true _
    rw [haccepted]
    rfl
  case unknown => exact exec_requestWords ((Bool.and_eq_true _ _).mp h).2 s
  case command =>
    have hfits : r.fits = true := by
      cases c <;> exact h
    rw [exec_requestWords hfits, exec_requestCommand]

end Sys2Proof.Machine

/-! The layouts of Table 7-1 (§7.3, §9.2): the words of a record, and the absence masks of a response. -/

namespace Sys2Proof.Machine

set_option Elab.async false

open Sys2Proof.Safety

/-! ### The words of a record -/

theorem countWord_eq (kind detail : BitVec 4) {mergeCount : Nat} (h : mergeCount ≤ 255) :
    (kind ++ detail ++ BitVec.ofNat 8 mergeCount : Word) =
      BitVec.ofNat 16 (4096 * kind.toNat + 256 * detail.toNat + mergeCount) := by
  refine word_eq ?_
  rw [toNat_append_weights, toNat_append_weights, toNat_ofNat_of_le h (by decide)]
  omega

theorem placeWord_eq (u : Subject) :
    (BitVec.ofNat 8 u.index.val ++ 0#2 ++ u.source : Word) = BitVec.ofNat 16 (256 * u.index.val + u.source.toNat) := by
  have hindex : u.index.val ≤ 255 := Nat.le_of_lt_succ u.index.isLt
  refine word_eq ?_
  rw [toNat_append_weights, toNat_append_weights, toNat_ofNat_of_le hindex (by decide), BitVec.toNat_ofNat]
  omega

theorem zoneWord_eq (channel : BitVec 5) {fromZone toZone : Option Nat} (value : Option Word) (hfrom : fromZone.getD 31 ≤ 31)
    (hto : toZone.getD 31 ≤ 31) :
    (channel ++ zoneField fromZone ++ zoneField toZone ++ BitVec.ofBool value.isSome : Word) =
      BitVec.ofNat 16 (2048 * channel.toNat + 64 * fromZone.getD 31 + 2 * toZone.getD 31 + value.elim 0 fun _ => 1) := by
  have hvalue : value.isSome.toNat = value.elim 0 fun _ => 1 := by cases value <;> rfl
  refine word_eq ?_
  rw [toNat_append_weights, toNat_append_weights, toNat_append_weights, zoneField, zoneField,
    toNat_ofNat_of_le hfrom (by decide), toNat_ofNat_of_le hto (by decide), BitVec.toNat_ofBool, hvalue]
  omega

/-- The two words of a timestamp, the high one first. -/
def timeWords (timestamp : BitVec 32) : List Word :=
  [BitVec.ofNat 16 (timestamp.toNat / 65536), BitVec.ofNat 16 (timestamp.toNat % 65536)]

theorem timeWords_eq (timestamp : BitVec 32) :
    [timestamp.extractLsb' 16 16, timestamp.extractLsb' 0 16] = timeWords timestamp := by
  have hhigh : timestamp.extractLsb' 16 16 = BitVec.ofNat 16 (timestamp.toNat / 65536) :=
    BitVec.eq_of_toNat_eq (by rw [BitVec.extractLsb'_toNat, BitVec.toNat_ofNat, Nat.shiftRight_eq_div_pow])
  have hlow : timestamp.extractLsb' 0 16 = BitVec.ofNat 16 (timestamp.toNat % 65536) :=
    BitVec.eq_of_toNat_eq (by rw [BitVec.extractLsb'_toNat, BitVec.toNat_ofNat, Nat.shiftRight_zero, Nat.mod_mod])
  rw [hhigh, hlow, timeWords]

section

variable {r : Record} {n : BitVec 16} {u : Subject}

/-- A sent record of a binding, whatever its kind: the words by the fields that the kind has. -/
theorem recordWords_of_subject (hsent : r.delivery = .sent n) (hcount : r.mergeCount ≤ 255) (hsubject : bodySubject r.body = some u)
    (hfrom : (bodyFromZone r.body).getD 31 ≤ 31) (hto : (bodyToZone r.body).getD 31 ≤ 31) :
    recordWords r =
      [ n, BitVec.ofNat 16 (4096 * (bodyKindCode r.body).toNat + 256 * (bodyDetail r.body).toNat + r.mergeCount),
        BitVec.ofNat 16 (256 * u.index.val + u.source.toNat),
        BitVec.ofNat 16 (2048 * u.channel.toNat + 64 * (bodyFromZone r.body).getD 31 + 2 * (bodyToZone r.body).getD 31
          + (bodyValue r.body).elim 0 fun _ => 1),
        (bodyValue r.body).getD 0 ] ++ timeWords r.timestamp := by
  have hsequence : recordSequence r = some n := by rw [recordSequence, hsent]
  rw [← timeWords_eq, ← countWord_eq _ _ hcount, ← placeWord_eq u, ← zoneWord_eq _ _ hfrom hto, recordWords, hsequence, hsubject]
  rfl

theorem recordWords_of_notice {flag : Flag} (hsent : r.delivery = .sent n) (hcount : r.mergeCount ≤ 255)
    (hbody : r.body = .notice flag) :
    recordWords r =
      [n, BitVec.ofNat 16 (4096 * 5 + 256 * flagCode flag + r.mergeCount), 0, BitVec.ofNat 16 (64 * 31 + 2 * 31), 0]
        ++ timeWords r.timestamp := by
  have hsequence : recordSequence r = some n := by rw [recordSequence, hsent]
  have hflag : (BitVec.ofNat 4 (flagCode flag)).toNat = flagCode flag := by cases flag <;> rfl
  have hword := countWord_eq (5 : BitVec 4) (BitVec.ofNat 4 (flagCode flag)) hcount
  have hplace : (BitVec.ofNat 8 0 ++ 0#2 ++ 0#6 : Word) = 0 := by decide
  have hzones : (0#5 ++ zoneField none ++ zoneField none ++ BitVec.ofBool false : Word) = BitVec.ofNat 16 (64 * 31 + 2 * 31) := by
    decide
  rw [hflag] at hword
  rw [← timeWords_eq, ← hzones, ← hplace, ← show _ = BitVec.ofNat 16 (4096 * 5 + 256 * flagCode flag + r.mergeCount) from hword,
    recordWords, hsequence, hbody]
  rfl

theorem transitionKind_toNat (a z : Nat) (v : Word) :
    (bodyKindCode (.transition u a z v)).toNat = if a < z then 0 else if z < a then 1 else 2 := by
  simp only [bodyKindCode]
  split
  · rfl
  · split <;> rfl

theorem reasonCode_toNat (reason : Reason) : (BitVec.ofNat 4 (reasonCode reason)).toNat = reasonCode reason := by
  cases reason <;> rfl

end

/-! ### The absence masks of a response -/

/-- Bit n of a mask is set exactly where result n is absent. -/
theorem absenceMask_getLsbD (results : List (Option Word)) {n : Nat} (h : n < 16) :
    (absenceMask results).getLsbD n = decide (results[n]? = some none) := by
  induction results generalizing n with
  | nil => simp [absenceMask]
  | cons r rest ih =>
    rw [absenceMask, BitVec.getLsbD_or, BitVec.getLsbD_shiftLeft]
    cases n with
    | zero => cases r <;> simp
    | succ n =>
      have hrest := ih (n := n) (by omega)
      have hone : (if r.isNone then 1#16 else 0#16).getLsbD (n + 1) = false := by
        cases r <;> simp
      rw [hone, Nat.add_sub_cancel, hrest, List.getElem?_cons_succ]
      simp [h]

theorem absenceMask_low (results : List (Option Word)) {n : Nat} (h : n < 16) :
    (absenceMask (results.take 16)).getLsbD n = decide (results[n]? = some none) := by
  rw [absenceMask_getLsbD _ h, List.getElem?_take_of_lt h]

theorem absenceMask_high (results : List (Option Word)) {n : Nat} (h : n < 16) :
    (absenceMask ((results.drop 16).take 16)).getLsbD n = decide (results[n + 16]? = some none) := by
  rw [absenceMask_getLsbD _ h, List.getElem?_take_of_lt h, List.getElem?_drop, Nat.add_comm]

/-! ### The layouts -/

/-- Settles O52, layout by layout: frame, SAMPLE, MGMT_REQ, ACK, record, EVENT frame and MGMT_RSP. -/
theorem frameWordsReadBack : Obligations.FrameWordsReadBack := by
  refine ⟨fun f h => ⟨readFrame_frameWords f h, fun check hcheck => ?otherCheck, ?header⟩, fun f h => ?sample,
    fun code r => ⟨?request, readRequest_requestAsFrame code r⟩, fun address extension expected => ?ack,
    fun r n hsent hcount => ⟨fun u a z v ha hz hbody => ?transition, fun u z v reason hz hbody => ?settled,
      fun u z hz hbody => ?stale, fun flag hbody => recordWords_of_notice hsent hcount hbody⟩,
    fun _ _ => rfl, fun address r h => ⟨_, _, ?response, fun n hn => ⟨absenceMask_low _ hn, absenceMask_high _ hn⟩⟩⟩
  case otherCheck => rw [readFrame_coveredWords f h, if_neg (Ne.symm hcheck)]
  case header => rw [coveredWords, headerWord0_eq, headerWord1_eq f h]
  case sample =>
    have hpairs : pairWords = fun p => [BitVec.ofNat 16 p.channel.toNat, p.value] := funext pairWords_eq
    rw [sampleAsFrame, bytes_eq_word, toNat_ofNat_of_le h (by decide), hpairs]
    rfl
  case request => rw [requestAsFrame, bytes_eq_word]; rfl
  case ack => simp [coveredWords, headerWord0_eq, headerWord1_eq]
  case transition =>
    have hwords := recordWords_of_subject (u := u) hsent hcount (by rw [hbody]; rfl) (by rw [hbody]; exact ha.trans (by decide))
      (by rw [hbody]; exact hz.trans (by decide))
    rw [hbody, transitionKind_toNat] at hwords
    exact hwords
  case settled =>
    have hwords := recordWords_of_subject (u := u) hsent hcount (by rw [hbody]; rfl) (by rw [hbody]; exact Nat.le_refl 31)
      (by rw [hbody]; exact hz.trans (by decide))
    rw [hbody, bodyDetail, reasonCode_toNat] at hwords
    exact hwords
  case stale =>
    have hfrom : z.getD 31 ≤ 31 := by
      cases z with
      | none => exact Nat.le_refl 31
      | some a => exact (hz a rfl).trans (by decide)
    have hwords := recordWords_of_subject (u := u) hsent hcount (by rw [hbody]; rfl) (by rw [hbody]; exact hfrom)
      (by rw [hbody]; exact Nat.le_refl 31)
    rw [hbody] at hwords
    exact hwords
  case response =>
    rw [responseFrame, bytes_eq_word, bytes_eq_word, toNat_ofNat_of_le h (by decide)]
    rfl

end Sys2Proof.Machine
